-- ==== Sys2Proof/Word.lean ====
section
/-! DEFINITION. The words of the block and the values of its configuration fields
(`00_scope.md` R10, R11; `10_state.md` R19 to R21). -/

namespace Sys2Proof

/-- A byte, R10. -/
abbrev Byte := BitVec 8

/-- A request word, `30_encoding.md` R54. -/
abbrev Word := BitVec 32

/-- A byte sequence, first byte first: a frame or a data operand, R11. -/
abbrev Frame := List Byte

/-- A device register address, 6 bits: `20_memory.md` R39, `90_conflicts.md` C1. -/
abbrev RegAddr := BitVec 6

/-- `CFG.CM`, R19. The reserved code 11 "is never held", so it is no value of this type. -/
inductive ChecksumMode where
  | none
  | xor
  | crc8
deriving DecidableEq, Repr, Inhabited

/-- `CFG.SW`, R20. -/
inductive SampleWidth where
  | w16
  | w24
deriving DecidableEq, Repr, Inhabited

/-- The configuration register `CFG`, R18 to R21. -/
structure Cfg where
  cm : ChecksumMode
  sw : SampleWidth
  sb : Bool
deriving DecidableEq, Repr, Inhabited

end Sys2Proof
end

