-- ==== Sys2Proof/Syntax.lean ====
section
/-! DEFINITION. The requests of the block, one constructor per row of `opcode_table.json`. -/

namespace Sys2Proof

/-- A request, with the operands of `30_encoding.md` R57, in the operand order of R68. Together
the operands hold every bit of the request word and of the data operand that the encoding lets
vary; the byte count `N` of CRC8 and XOR8 is the length of the data (R55). -/
inductive Instr where
  /-- CRC8 (OP 0x1): seed `V`, data `D`. -/
  | crc8 (seed : Byte) (data : Frame)
  /-- XOR8 (OP 0x2): seed `V`, data `D`. -/
  | xor8 (seed : Byte) (data : Frame)
  /-- CFG_WRITE (OP 0x3): the configuration of `V[3:0]`, R66. -/
  | cfgWrite (cfg : Cfg)
  /-- CFG_READ (OP 0x4). -/
  | cfgRead
  /-- GEOM_READ (OP 0x5). -/
  | geomRead
  /-- READ_REG (OP 0x6): address field `A`. -/
  | readReg (a : Byte)
  /-- WRITE_REG (OP 0x7): address field `A`, value `V`. -/
  | writeReg (a v : Byte)
  /-- READ_MASKED (OP 0x8): address field `A`, mask `M`. -/
  | readMasked (a m : Byte)
  /-- WRITE_MASKED (OP 0x9): address field `A`, mask `M`, field value `V`. -/
  | writeMasked (a m v : Byte)
  /-- READ_CONV (OP 0xA). -/
  | readConv
deriving DecidableEq, Repr

end Sys2Proof
end

