-- ==== Sys2Proof/WellFormed.lean ====
section
/-! DEFINITION. Which terms of `Instr` are requests a word and a data operand can express. -/

namespace Sys2Proof

/-- CRC8's byte count is the 8-bit field `A` (`30_encoding.md` R56), XOR8's is at most 3
(`40_checksum.md` R77). Every other term is well formed. -/
def Instr.wellFormed : Instr → Bool
  | .crc8 _ data => data.length ≤ 255
  | .xor8 _ data => data.length ≤ 3
  | .cfgWrite _ => true
  | .cfgRead => true
  | .geomRead => true
  | .readReg _ => true
  | .writeReg _ _ => true
  | .readMasked _ _ => true
  | .writeMasked _ _ _ => true
  | .readConv => true

end Sys2Proof
end

