-- ==== Sys2Proof/Decode.lean ====
section
/-! DEFINITION. Decoding a request word and its data operand (`30_encoding.md` R54 to R60, R66,
R70 to R72), and the encoder, from the same tables. -/

namespace Sys2Proof

/-! ### The fields of a request word, R54 -/

/-- `OP`, bits 3:0. -/
def opField (w : Word) : BitVec 4 := w.extractLsb' 0 4

/-- `RSV`, bits 7:4. -/
def rsvField (w : Word) : BitVec 4 := w.extractLsb' 4 4

/-- `A`, bits 15:8. -/
def aField (w : Word) : Byte := w.extractLsb' 8 8

/-- `M`, bits 23:16. -/
def mField (w : Word) : Byte := w.extractLsb' 16 8

/-- `V`, bits 31:24. -/
def vField (w : Word) : Byte := w.extractLsb' 24 8

/-- The word with the given fields, each at its place, and `RSV` = 0. -/
def packWord (v m a : Byte) (op : BitVec 4) : Word :=
  (v.setWidth 32 <<< 24) ||| (m.setWidth 32 <<< 16) ||| (a.setWidth 32 <<< 8) ||| op.setWidth 32

/-! ### The configuration byte, R62 and R66 -/

/-- The 2-bit code of a checksum mode, R62. -/
def modeCode : ChecksumMode → BitVec 2
  | .none => 0b00#2
  | .xor => 0b01#2
  | .crc8 => 0b10#2

/-- The checksum mode of a 2-bit code; 11 is reserved, R62. -/
def modeOfCode (c : BitVec 2) : Option ChecksumMode :=
  if c = 0b00#2 then some .none
  else if c = 0b01#2 then some .xor
  else if c = 0b10#2 then some .crc8
  else none

/-- The 1-bit code of a sample width, R20. -/
def widthCode : SampleWidth → BitVec 1
  | .w16 => 0#1
  | .w24 => 1#1

/-- The sample width of a bit, R20. -/
def widthOfBit (b : Bool) : SampleWidth := if b then .w24 else .w16

/-- The configuration byte `{0b0000, SB, SW, CM[1:0]}`, R66. -/
def cfgByte (c : Cfg) : Byte :=
  0#4 ++ BitVec.ofBool c.sb ++ widthCode c.sw ++ modeCode c.cm

/-- The configuration of a configuration byte's low four bits, where its mode is not reserved. -/
def cfgOfByte (v : Byte) : Option Cfg :=
  (modeOfCode (v.extractLsb' 0 2)).map fun cm =>
    { cm := cm, sw := widthOfBit (v.getLsbD 2), sb := v.getLsbD 3 }

/-! ### The opcode table, R58 -/

/-- A row of R58: a word selects the row when `(REQ & mask) = match`. -/
structure Row where
  pattern : Word
  mask : Word
deriving DecidableEq, Repr

def rowCrc8 : Row := ⟨0x00000001#32, 0x00FF00FF#32⟩
def rowXor8 : Row := ⟨0x00000002#32, 0x00FF00FF#32⟩
def rowCfgWrite : Row := ⟨0x00000003#32, 0xF0FFFFFF#32⟩
def rowCfgRead : Row := ⟨0x00000004#32, 0xFFFFFFFF#32⟩
def rowGeomRead : Row := ⟨0x00000005#32, 0xFFFFFFFF#32⟩
def rowReadReg : Row := ⟨0x00000006#32, 0xFFFF00FF#32⟩
def rowWriteReg : Row := ⟨0x00000007#32, 0x00FF00FF#32⟩
def rowReadMasked : Row := ⟨0x00000008#32, 0xFF0000FF#32⟩
def rowWriteMasked : Row := ⟨0x00000009#32, 0x000000FF#32⟩
def rowReadConv : Row := ⟨0x0000000A#32, 0xFFFFFFFF#32⟩

/-- `(REQ & mask) = match`, R58. -/
def selects (w : Word) (r : Row) : Bool := w &&& r.mask == r.pattern

/-- Why a request is refused: the cases of R60, by the names of R72. -/
inductive DecodeError where
  /-- `OP` is 0x0 or 0xB to 0xF, R59. -/
  | reservedOpcode
  /-- `RSV` or a must-be-zero field of the row is nonzero. -/
  | nonzeroReservedField
  /-- `len(D)` is not what R55 requires. -/
  | wrongDataLength
  /-- XOR8 with `N > 3`. -/
  | xorLengthAbove3
  /-- CFG_WRITE with `V[1:0] = 11`. -/
  | reservedChecksumMode
deriving DecidableEq, Repr

/-- One row of the table: its must-be-zero bits, then its data length `n` (this order: log 14), then
the request. -/
def decodeRow (w : Word) (d : Frame) (r : Row) (n : Nat) (i : Instr) : Except DecodeError Instr :=
  if !selects w r then .error .nonzeroReservedField
  else if d.length ≠ n then .error .wrongDataLength
  else .ok i

/-- Decoding, total on every word and every data operand: R57, R60, R71. DESIGN CHOICE (log 14):
where several cases of R60 hold at once, the spec does not say which of R72's reasons is given; the
reserved opcode, `N > 3` and the reserved mode are named before the must-be-zero fields, and those
before the data length. Every reason has the same response. -/
def decode (w : Word) (d : Frame) : Except DecodeError Instr :=
  match (opField w).toNat with
  | 0x1 => decodeRow w d rowCrc8 (aField w).toNat (.crc8 (vField w) d)
  | 0x2 =>
    if 3 < (aField w).toNat then .error .xorLengthAbove3
    else decodeRow w d rowXor8 (aField w).toNat (.xor8 (vField w) d)
  | 0x3 =>
    match cfgOfByte (vField w) with
    | none => .error .reservedChecksumMode
    | some cfg => decodeRow w d rowCfgWrite 0 (.cfgWrite cfg)
  | 0x4 => decodeRow w d rowCfgRead 0 .cfgRead
  | 0x5 => decodeRow w d rowGeomRead 0 .geomRead
  | 0x6 => decodeRow w d rowReadReg 0 (.readReg (aField w))
  | 0x7 => decodeRow w d rowWriteReg 0 (.writeReg (aField w) (vField w))
  | 0x8 => decodeRow w d rowReadMasked 0 (.readMasked (aField w) (mField w))
  | 0x9 => decodeRow w d rowWriteMasked 0 (.writeMasked (aField w) (mField w) (vField w))
  | 0xA => decodeRow w d rowReadConv 0 .readConv
  | _ => .error .reservedOpcode

/-! ### The encoder, R57 and R68 -/

/-- The opcode of a request, R57. -/
def opcodeOf : Instr → BitVec 4
  | .crc8 _ _ => 0x1#4
  | .xor8 _ _ => 0x2#4
  | .cfgWrite _ => 0x3#4
  | .cfgRead => 0x4#4
  | .geomRead => 0x5#4
  | .readReg _ => 0x6#4
  | .writeReg _ _ => 0x7#4
  | .readMasked _ _ => 0x8#4
  | .writeMasked _ _ _ => 0x9#4
  | .readConv => 0xA#4

/-- The request word of a well-formed request, R68. -/
def encodeWord : Instr → Word
  | .crc8 seed data => packWord seed 0 (BitVec.ofNat 8 data.length) 0x1#4
  | .xor8 seed data => packWord seed 0 (BitVec.ofNat 8 data.length) 0x2#4
  | .cfgWrite cfg => packWord (cfgByte cfg) 0 0 0x3#4
  | .cfgRead => packWord 0 0 0 0x4#4
  | .geomRead => packWord 0 0 0 0x5#4
  | .readReg a => packWord 0 0 a 0x6#4
  | .writeReg a v => packWord v 0 a 0x7#4
  | .readMasked a m => packWord 0 m a 0x8#4
  | .writeMasked a m v => packWord v m a 0x9#4
  | .readConv => packWord 0 0 0 0xA#4

/-- The data operand of a request: `[]` except for CRC8 and XOR8, R55. -/
def encodeData : Instr → Frame
  | .crc8 _ data => data
  | .xor8 _ data => data
  | .cfgWrite _ => []
  | .cfgRead => []
  | .geomRead => []
  | .readReg _ => []
  | .writeReg _ _ => []
  | .readMasked _ _ => []
  | .writeMasked _ _ _ => []
  | .readConv => []

/-- A request as the requester offers it: its word and its data operand. -/
def encode (i : Instr) : Word × Frame := (encodeWord i, encodeData i)

/-! ### The host's view of the table -/

/-- The word whose low `nbits` bits are those of `w` and whose other bits are 0. -/
def tableWord (nbits w : Nat) : Word := BitVec.ofNat 32 (w % 2 ^ nbits)

/-- The data operand laid beside a table word: as many zero bytes as the word's byte count asks
for in CRC8 and XOR8, none otherwise (log 10). -/
def tableData (w : Word) : Frame :=
  if opField w = 0x1#4 ∨ opField w = 0x2#4 then List.replicate (aField w).toNat 0 else []

/-- The request the decoder reads from a table word, `none` where it refuses it. -/
def decodeTableWord (nbits w : Nat) : Option Instr :=
  match decode (tableWord nbits w) (tableData (tableWord nbits w)) with
  | .ok i => some i
  | .error _ => none

end Sys2Proof
end

