-- ==== Sys2Proof/Machine/Checksum.lean ====
section
/-! DEFINITION. The checksum engine's two functions (`40_checksum.md` R73, R76). -/

namespace Sys2Proof.Machine

/-- One bit of R73: shift left, dropping the old top bit, and XOR the polynomial when the old top
bit differs from the data bit. -/
def crc8Bit (poly : Byte) (c : Byte) (d : Bool) : Byte :=
  if c.msb ≠ d then (c <<< 1) ^^^ poly else c <<< 1

/-- The bits of a byte, most significant first, `20_memory.md` R44. -/
def bitsMsbFirst (b : Byte) : List Bool := [7, 6, 5, 4, 3, 2, 1, 0].map fun i => b.getLsbD i

/-- One byte of R73. -/
def crc8Byte (poly : Byte) (c b : Byte) : Byte := (bitsMsbFirst b).foldl (crc8Bit poly) c

/-- `crc8(s, n, seed)`, R73, for the polynomial `poly`. -/
def crc8 (poly : Byte) (s : Frame) (n : Nat) (seed : Byte) : Byte :=
  (s.take n).foldl (crc8Byte poly) seed

/-- `xor8(s, n, seed)`, R76; the rules call it only with `n <= 3`. -/
def xor8 (s : Frame) (n : Nat) (seed : Byte) : Byte := (s.take n).foldl (· ^^^ ·) seed

end Sys2Proof.Machine
end

