-- ==== Sys2Proof/Machine/Geometry.lean ====
section
/-! DEFINITION. The frame geometry calculator: combinational functions of `CFG` alone
(`41_frame_geometry.md` R84 to R87). -/

namespace Sys2Proof.Machine

/-- `REG_LEN`, R85. -/
def regLen (c : Cfg) : Nat := if c.cm = .none then 2 else 3

/-- `CONV_BYTES`, R86. -/
def convBytes (c : Cfg) : Nat :=
  (if c.sw = .w24 then 3 else 2) + (if c.cm ≠ .none then 1 else 0) + (if c.sb then 1 else 0)

/-- `CONV_UNITS`, R87, at the width of the `UNITS` register (R23). -/
def convUnits (c : Cfg) : BitVec 2 := BitVec.ofNat 2 ((convBytes c + 1) / 2)

end Sys2Proof.Machine
end

