-- ==== Sys2Proof/Machine/Operands.lean ====
section
/-! DEFINITION. Operand forms: the register address of a request, the command byte, the frames
sent, the positions read in a received frame, and the geometry byte. -/

namespace Sys2Proof.Machine

/-- The register address `A[5:0]`; `A[7:6]` is ignored: `30_encoding.md` R56. -/
def regAddr (a : Byte) : RegAddr := a.extractLsb' 0 6

/-- The command byte `READ|address`, `30_encoding.md` R61. -/
def readCommand (addr : RegAddr) : Byte := 0#1 ++ 1#1 ++ addr

/-- The command byte `WRITE|address`, `30_encoding.md` R61. -/
def writeCommand (addr : RegAddr) : Byte := 0#1 ++ 0#1 ++ addr

/-- The frame of a register read, `42_register_transactions.md` R94, R103. -/
def readFrame (cm : ChecksumMode) (addr : RegAddr) : Frame :=
  match cm with
  | .none => [readCommand addr, 0x00#8]
  | .xor => [readCommand addr, 0x00#8, 0x00#8]
  | .crc8 => [readCommand addr, 0x00#8, 0x00#8]

/-- The frame of a register write: in XOR mode too it carries a CRC-8 byte,
`42_register_transactions.md` R95, R101. -/
def writeFrame (poly : Byte) (cm : ChecksumMode) (addr : RegAddr) (v : Byte) : Frame :=
  match cm with
  | .none => [writeCommand addr, v]
  | .xor => [writeCommand addr, v, crc8 poly [writeCommand addr, v] 2 0x00#8]
  | .crc8 => [writeCommand addr, v, crc8 poly [writeCommand addr, v] 2 0x00#8]

/-- The frame of a conversion read: the command byte and `CONV_BYTES` zero bytes,
`44_conversion_read.md` R114, R115. -/
def convFrame (adcDataAddr : RegAddr) (cfg : Cfg) : Frame :=
  readCommand adcDataAddr :: List.replicate (convBytes cfg) 0x00#8

/-- `rx[i]`. The rules read only positions inside the frame (`44_conversion_read.md` R120), and a
received frame is as long as the frame sent, so the default is never taken (log 11). -/
def rxAt (rx : Frame) (i : Nat) : Byte := rx.getD i 0x00#8

/-- The geometry byte `{0b0, REG_LEN[1:0], CONV_BYTES[2:0], UNITS[1:0]}`, `30_encoding.md` R67. -/
def geomByte (regLen convBytes : Nat) (units : BitVec 2) : Byte :=
  0#1 ++ BitVec.ofNat 2 regLen ++ BitVec.ofNat 3 convBytes ++ units

/-- The merged value of a masked write; the field value is not masked,
`43_masked_access.md` R108. -/
def mergeField (old m v : Byte) : Byte := (old &&& ~~~m) ||| v

end Sys2Proof.Machine
end

