-- ==== Sys2Proof/Machine/Flags.lean ====
section
/-! DEFINITION. The three status bits (`30_encoding.md` R64, `60_exceptions.md` R128) and the
checks that set CHECKSUM_ERR. -/

namespace Sys2Proof.Machine

/-- Success, 0b000. -/
def statusOk : BitVec 3 := 0b000#3

/-- TRANSPORT_ERR, bit 0. -/
def transportErr : BitVec 3 := 0b001#3

/-- CHECKSUM_ERR, bit 1. -/
def checksumErr : BitVec 3 := 0b010#3

/-- ILLEGAL, bit 2. -/
def illegal : BitVec 3 := 0b100#3

/-- Does the check of a completed register read fail? The input is the command byte as sent and
`rx[1]`, `42_register_transactions.md` R94, R97. -/
def readCheckFails (poly : Byte) (cm : ChecksumMode) (cmd : Byte) (rx : Frame) : Bool :=
  match cm with
  | .none => false
  | .xor => xor8 [cmd, rxAt rx 1] 2 0x00#8 != rxAt rx 2
  | .crc8 => crc8 poly [cmd, rxAt rx 1] 2 0x00#8 != rxAt rx 2

/-- Does the check of a completed conversion read fail? In CRC8 mode only, over the first four
received bytes, against `rx[3]`: `44_conversion_read.md` R116 to R118, `90_conflicts.md` C3. -/
def convCheckFails (poly : Byte) (cm : ChecksumMode) (rx : Frame) : Bool :=
  match cm with
  | .none => false
  | .xor => false
  | .crc8 => crc8 poly rx 4 0x00#8 != rxAt rx 3

/-- The status of a completed exchange with the given verdict of its check. -/
def checkStatus (fails : Bool) : BitVec 3 := if fails then checksumErr else statusOk

end Sys2Proof.Machine
end

