-- ==== Sys2Proof/Config.lean ====
section
/-! DEFINITION. What an implementation fixes (`00_scope.md` R6 to R8) the free values of the
transport (R14), and that of a response without a value (`10_state.md` R29). Every constant here is opaque: no proof can see its value. -/

namespace Sys2Proof

/-- The parameters of one instance of the block, R6 to R8. A model "takes them as arguments":
the state carries them unchanged, so a statement about every state is one about every parameter. -/
structure Params where
  /-- `CRC8_POLY`, R6. -/
  crc8Poly : Byte
  /-- `ADC_DATA_ADDR`, R7. -/
  adcDataAddr : RegAddr
  /-- `INIT_CHECKSUM_MODE`, `INIT_SAMPLE_WIDTH` and `INIT_STATUS_BYTE`, R8 and R22. -/
  init : Cfg
deriving DecidableEq, Repr, Inhabited

/-- The instance's `CRC8_POLY`; open, D7 (log 4). -/
opaque Config.crc8Poly : Byte

/-- The instance's `ADC_DATA_ADDR`; open, D8 (log 4). -/
opaque Config.adcDataAddr : RegAddr

/-- The instance's `INIT_CHECKSUM_MODE`; open, D16 (log 4). -/
opaque Config.initChecksumMode : ChecksumMode

/-- The instance's `INIT_SAMPLE_WIDTH`; open, D16 (log 4). -/
opaque Config.initSampleWidth : SampleWidth

/-- The instance's `INIT_STATUS_BYTE`; open, D16 (log 4). -/
opaque Config.initStatusByte : Bool

/-- The parameters the machine is reset with. -/
def Config.params : Params :=
  { crc8Poly := Config.crc8Poly
    adcDataAddr := Config.adcDataAddr
    init := ⟨Config.initChecksumMode, Config.initSampleWidth, Config.initStatusByte⟩ }

/-- FREE VALUE (log 2): whether the exchange with this number completes (`ok` of R14). -/
opaque Config.exchangeOk : Nat → Bool

/-- FREE VALUE (log 2): the byte the device sends in the exchange with this number, at this
position (`rx[i]` of R14). -/
opaque Config.rxByte : Nat → Nat → Byte

/-- FREE VALUE (log 16): the byte `RESP.value` holds after the response with this number, where the
response gives it no defined value (`10_state.md` R29). -/
opaque Config.undefinedValue : Nat → Byte

end Sys2Proof
end

