-- ==== Sys2Proof/Machine/State.lean ====
section
/-! DEFINITION. The state of the block (`10_state.md` R18), of the requester's and the transport's
sides of its interface, the faults a read records, the reasons a step can stop, and the state after
reset. -/

namespace Sys2Proof.Machine

/-- `SEQ`, R25. -/
inductive Seq where
  | idle
  | busy
deriving DecidableEq, Repr

/-- The latched request, R26: the request (its word and data operand in decoded form, log 6), the
snapshot of `CFG`, and the answers its exchanges have had so far (log 6), each the received bytes
or `none` for a failure. -/
structure Latch where
  request : Instr
  cfg : Cfg
  answers : List (Option Frame)
deriving DecidableEq, Repr

/-- The response registers, R27 to R30. Each holds a value in every state; `written` and
`valueValid` say whether it is one that the spec defines (log 5, log 16). -/
structure Resp where
  status : BitVec 3
  valueValid : Bool
  value : Byte
  rx : Frame
  /-- A response was written since reset: before it, the spec says that `status` and `rx` hold no
  value (R27, R30, R143). -/
  written : Bool
deriving DecidableEq, Repr

/-- A recorded fault: the requester read a register that holds no value by the spec's account. "A
model faults" on such a read (R27, R29, R143), and to fault is to record it
(`93_implementation_defined.md`, log 5). -/
inductive ReadFault where
  /-- A read of `RESP.status` before the first response: R27, R143, D17, I14. -/
  | status
  /-- A read of `RESP.value` while `RESP.value_valid` = 0: R29, R143, D12, I6. -/
  | value
  /-- A read of `RESP.rx` before the first response: R30, R143, D17, I14. -/
  | rx
deriving DecidableEq, Repr

/-- An answer the transport has in store for an exchange. -/
inductive Reply where
  /-- The exchange completes; the bytes the device sends, made as long as the frame (log 2). -/
  | bytes (rx : Frame)
  /-- The exchange fails, R14. -/
  | failure
  /-- No answer yet: the block waits in BUSY, R156 (log 3). -/
  | wait
  /-- No answer, now or ever: the exchange never completes, R139, R156 and I12 (log 3). -/
  | never
deriving DecidableEq, Repr

/-- The transport: the answers in store, oldest first, and the number of the next answer. When
none is in store, the answer is a free value (R14, log 2). -/
structure Transport where
  script : List Reply
  calls : Nat
deriving DecidableEq, Repr

/-- A completed exchange: the bytes sent, and the bytes received or `none` for a failure, R14. -/
structure Exchange where
  tx : Frame
  rx : Option Frame
deriving DecidableEq, Repr

/-- What the requester can read: the response registers (R27 to R30) and the ports (R91). -/
inductive Output where
  | respStatus
  | respValueValid
  | respValue
  | respRx
  | regLenPort
  | convBytesPort
  | convUnitsPort
deriving DecidableEq, Repr

/-- A move of the requester, D32 (log 1). -/
inductive Move where
  /-- Offer a request: any word and any byte sequence. -/
  | request (word : Word) (data : Frame)
  /-- Read a response register or a port. -/
  | read (o : Output)
  /-- Reset the block. -/
  | reset
  /-- Do nothing for one step: the block goes on by itself (log 15). -/
  | pass
deriving DecidableEq, Repr

/-- The state of the machine. -/
structure State where
  /-- The block's parameters, R6 to R8; no step changes them (log 4). -/
  params : Params
  /-- `CFG`, R19 to R21. -/
  cfg : Cfg
  /-- `UNITS`, R23. -/
  units : BitVec 2
  /-- `SEQ`, R25. -/
  seq : Seq
  /-- The latched request, R26. -/
  latched : Option Latch
  /-- `RESP`, R27 to R30. -/
  resp : Resp
  /-- The transport's side of the interface, R14 (the model's own field, log 2). -/
  transport : Transport
  /-- The completed exchanges, oldest first (the model's own field, log 8). -/
  bus : List Exchange
  /-- The requester's pending moves, oldest first (the model's own field, log 1). -/
  moves : List Move
  /-- The number of the next response, with which its free value is drawn (the model's own field,
  log 16). -/
  draws : Nat
  /-- The faults recorded so far, oldest first (`93_implementation_defined.md`, log 5). -/
  faults : List ReadFault
deriving DecidableEq, Repr

/-- Why the machine stops: nothing stops it. No request faults (`60_exceptions.md` R134), and a read
that the spec says faults is recorded in the state and the machine goes on (log 5). -/
inductive Fault where
deriving DecidableEq, Repr

/-- Why a request has no meaning. -/
inductive Refusal where
  /-- Raised by `exec` alone, for a request that has no meaning yet; none is left. Safe. -/
  | notModelled (mnemonic : String)
deriving DecidableEq, Repr

/-- The response registers after reset, R143. The spec gives `status`, `value` and `rx` no value;
the values here are the model's (DESIGN CHOICE, unsafe, log 5). -/
def Resp.cleared : Resp :=
  { status := 0b000#3, valueValid := false, value := 0x00#8, rx := [], written := false }

/-- The machine right after reset, R143, with nothing offered by the requester, nothing in store
at the transport, no exchange completed and no fault recorded (log 1, 2, 5, 8, 16). -/
def State.reset : State :=
  { params := Config.params
    cfg := Config.params.init
    units := convUnits Config.params.init
    seq := .idle
    latched := none
    resp := Resp.cleared
    transport := { script := [], calls := 0 }
    bus := []
    moves := []
    draws := 0
    faults := [] }

end Sys2Proof.Machine
end

