-- ==== Sys2Proof/Machine/Ops.lean ====
section
/-! DEFINITION. The named operations over the state: the response, acceptance of a request, the
transport's `Exchange`, the running of a request's exchanges, reset, and the requester's reads.
The block takes no exception and returns from none (`60_exceptions.md` R134, R135): what stands in
that place is the response with a status bit set, `State.respond`. -/

namespace Sys2Proof.Machine

/-! ### The response, `00_scope.md` R13 -/

/-- The response registers as the response with number `n` writes them: `respond(st, val, rx)`,
where `none` is `invalid`, after which `RESP.value` holds a free value (R29, log 16). -/
def Resp.of (st : BitVec 3) (val : Option Byte) (rx : Frame) (n : Nat) : Resp :=
  { status := st
    valueValid := val.isSome
    value := val.getD (Config.undefinedValue n)
    rx := rx
    written := true }

/-- `respond(st, val, rx)`, R13: the response is written and `SEQ` returns to IDLE
(`10_state.md` R25); the latch is released (log 6). -/
def State.respond (st : BitVec 3) (val : Option Byte) (rx : Frame) (s : State) : State :=
  { s with
    resp := Resp.of st val rx s.draws
    seq := .idle
    latched := none
    draws := s.draws + 1 }

/-- The answer to a refused request: `respond(ILLEGAL, invalid, [])`, `30_encoding.md` R60. -/
def State.refuse (s : State) : State := s.respond illegal none []

/-! ### Acceptance, `10_state.md` R25 and R26 -/

/-- The block accepts a request: `SEQ` becomes BUSY, and the request and `CFG` are latched. -/
def State.accept (i : Instr) (s : State) : State :=
  { s with seq := .busy, latched := some { request := i, cfg := s.cfg, answers := [] } }

/-- A request is offered to the block. It is accepted only in IDLE (R25, R153); its rule then runs
with the snapshot of `CFG` (R26). -/
def serve (i : Instr) (body : Cfg → State → State) (s : State) :
    Host.Outcome State Fault Refusal :=
  .next <|
    match s.seq with
    | .idle => body s.cfg (s.accept i)
    | .busy => s

/-! ### The transport, `00_scope.md` R14 -/

/-- What the transport says to an exchange. -/
inductive Answer where
  /-- Nothing, yet or ever (log 3). -/
  | waiting
  /-- The exchange is over: the received bytes, or `none` for a failure. -/
  | answered (rx : Option Frame)
deriving DecidableEq, Repr

/-- `n` received bytes: those in store, and free values where the store gives none, so that a
received frame is always as long as the frame sent (R14, log 2). -/
def receivedBytes (call n : Nat) (bytes : Frame) : Frame :=
  (List.range n).map fun i => (bytes[i]?).getD (Config.rxByte call i)

/-- The transport's answer to an exchange of `n` bytes. -/
def Transport.answer (t : Transport) (n : Nat) : Answer :=
  match t.script with
  | [] => .answered (if Config.exchangeOk t.calls then some (receivedBytes t.calls n []) else none)
  | .bytes b :: _ => .answered (some (receivedBytes t.calls n b))
  | .failure :: _ => .answered none
  | .wait :: _ => .waiting
  | .never :: _ => .waiting

/-- The transport after it answered. -/
def Transport.next (t : Transport) : Transport :=
  { script := t.script.tail, calls := t.calls + 1 }

/-- The transport after it was asked and did not answer. An exchange that never completes stays
where it is: R139 (log 3). -/
def Transport.asked (t : Transport) : Transport :=
  match t.script with
  | .never :: _ => t
  | _ => t.next

/-- The latch with one more answer. -/
def Latch.note (l : Latch) (rx : Option Frame) : Latch := { l with answers := l.answers ++ [rx] }

/-- The state after the transport was asked and did not answer. -/
def State.asked (s : State) : State := { s with transport := s.transport.asked }

/-- The state after the exchange of `tx` is over, with the answer `rx`: `20_memory.md` R48. -/
def State.exchanged (tx : Frame) (rx : Option Frame) (s : State) : State :=
  { s with
    transport := s.transport.next
    bus := s.bus ++ [{ tx := tx, rx := rx }]
    latched := s.latched.map fun l => l.note rx }

/-! ### The exchanges of a request

The straight-line exchange sequence of a request's rule, as data: the next frame to send and how
the rule goes on with what came back, or the response that ends it (`10_state.md` R32). -/

/-- What a request's rule still has to do. -/
inductive Plan where
  /-- `respond(st, val, rx)`. -/
  | done (st : BitVec 3) (val : Option Byte) (rx : Frame)
  /-- `(rx, ok) <- Exchange(tx)`, then the rest. -/
  | exchange (tx : Frame) (rest : Option Frame → Plan)

/-- The plan that is left after some answers. -/
def Plan.after : Plan → List (Option Frame) → Plan
  | .done st val rx, _ => .done st val rx
  | .exchange tx rest, [] => .exchange tx rest
  | .exchange _ rest, a :: as => (rest a).after as

/-- Run a plan: each exchange is complete before the next starts (`20_memory.md` R50). Where the
transport has no answer, the block stays BUSY at that exchange, for ever where the exchange never
completes (R139, R156, log 3). -/
def advance : Plan → State → State
  | .done st val rx, s => s.respond st val rx
  | .exchange tx rest, s =>
    match s.transport.answer tx.length with
    | .waiting => s.asked
    | .answered a => advance (rest a) (s.exchanged tx a)

/-- What `RegRead` returns, `42_register_transactions.md` R94. -/
structure ReadResult where
  status : BitVec 3
  value : Option Byte
  rx : Frame
deriving DecidableEq, Repr

/-- `RegRead(addr, cm)`, R94, and how its caller goes on. -/
def regRead (p : Params) (cm : ChecksumMode) (addr : RegAddr) (k : ReadResult → Plan) : Plan :=
  .exchange (readFrame cm addr) fun
    | none => k { status := transportErr, value := none, rx := [] }
    | some rx =>
      k { status := checkStatus (readCheckFails p.crc8Poly cm (readCommand addr) rx)
          value := some (rxAt rx 1)
          rx := rx }

/-- `RegWrite(addr, v, cm)`, R95, and how its caller goes on with the status. -/
def regWrite (p : Params) (cm : ChecksumMode) (addr : RegAddr) (v : Byte)
    (k : BitVec 3 → Plan) : Plan :=
  .exchange (writeFrame p.crc8Poly cm addr v) fun
    | none => k transportErr
    | some _ => k statusOk

/-! ### Reset, `70_reset_and_hazards.md` R143, R145 -/

/-- Reset is one step; a running request is abandoned. The environment is left alone: no exchange
is issued and nothing happens to the device (log 7). -/
def State.resetBlock (s : State) : State :=
  { s with
    cfg := s.params.init
    units := convUnits s.params.init
    seq := .idle
    latched := none
    resp := Resp.cleared }

/-! ### The requester's reads, D32 -/

/-- What a read gives, at the width the spec gives the register or port. -/
inductive Reading where
  | status (st : BitVec 3)
  | valueValid (b : Bool)
  | value (v : Byte)
  | rx (f : Frame)
  | regLen (n : BitVec 2)
  | convBytes (n : BitVec 3)
  | convUnits (n : BitVec 2)
deriving DecidableEq, Repr

/-- What the requester reads at an output: what the register holds (R27 to R30), or the port's
length (`41_frame_geometry.md` R91). -/
def State.readOutput (s : State) : Output → Reading
  | .respStatus => .status s.resp.status
  | .respValueValid => .valueValid s.resp.valueValid
  | .respValue => .value s.resp.value
  | .respRx => .rx s.resp.rx
  | .regLenPort => .regLen (BitVec.ofNat 2 (regLen s.cfg))
  | .convBytesPort => .convBytes (BitVec.ofNat 3 (convBytes s.cfg))
  | .convUnitsPort => .convUnits s.units

/-- The fault of a read, where the spec says that a model faults: R27, R29, R30, R143. -/
def State.readFault (s : State) : Output → Option ReadFault
  | .respStatus => if s.resp.written then none else some .status
  | .respValueValid => none
  | .respValue => if s.resp.valueValid then none else some .value
  | .respRx => if s.resp.written then none else some .rx
  | .regLenPort => none
  | .convBytesPort => none
  | .convUnitsPort => none

/-- The requester's read as a move: the machine goes on, and a fault of the read is recorded
(log 5). -/
def State.readMove (o : Output) (s : State) : State :=
  { s with faults := s.faults ++ (s.readFault o).toList }

end Sys2Proof.Machine
end

