-- ==== Sys2Proof/Machine/ChecksumRequests.lean ====
section
/-! DEFINITION. CRC8 and XOR8 (`40_checksum.md`). -/

namespace Sys2Proof.Machine

/-- CRC8, R74. Data longer than the 8-bit byte count can say never has `len(D) = N` (log 9). -/
def execCrc8 (seed : Byte) (data : Frame) (s : State) : Host.Outcome State Fault Refusal :=
  serve (.crc8 seed data) (fun _ s =>
    if 255 < data.length then s.refuse
    else s.respond statusOk (some (crc8 s.params.crc8Poly data data.length seed)) []) s

/-- XOR8, R77: more than 3 bytes are refused. -/
def execXor8 (seed : Byte) (data : Frame) (s : State) : Host.Outcome State Fault Refusal :=
  serve (.xor8 seed data) (fun _ s =>
    if 3 < data.length then s.refuse
    else s.respond statusOk (some (xor8 data data.length seed)) []) s

end Sys2Proof.Machine
end

