-- ==== Sys2Proof/Machine/Configuration.lean ====
section
/-! DEFINITION. CFG_WRITE and CFG_READ (`45_configuration.md`), and the write of `CFG` with
`UNITS` that CFG_WRITE is. -/

namespace Sys2Proof.Machine

/-- `CFG` and `UNITS` are written in one indivisible step, R124. -/
def State.setCfg (cfg : Cfg) (s : State) : State := { s with cfg := cfg, units := convUnits cfg }

/-- CFG_WRITE, R123; it issues no exchange, R125. -/
def execCfgWrite (cfg : Cfg) (s : State) : Host.Outcome State Fault Refusal :=
  serve (.cfgWrite cfg) (fun _ s => (s.setCfg cfg).respond statusOk none []) s

/-- CFG_READ, R126. -/
def execCfgRead (s : State) : Host.Outcome State Fault Refusal :=
  serve .cfgRead (fun cfg s => s.respond statusOk (some (cfgByte cfg)) []) s

end Sys2Proof.Machine
end

