-- ==== Sys2Proof/Machine/ConversionRead.lean ====
section
/-! DEFINITION. READ_CONV (`44_conversion_read.md`). -/

namespace Sys2Proof.Machine

/-- The rule of READ_CONV, R114: the bytes are returned raw and without a value (R122), also after
a mismatch (R119). -/
def planReadConv (p : Params) (cfg : Cfg) : Plan :=
  .exchange (convFrame p.adcDataAddr cfg) fun
    | none => .done transportErr none []
    | some rx => .done (checkStatus (convCheckFails p.crc8Poly cfg.cm rx)) none rx

/-- READ_CONV, R114. -/
def execReadConv (s : State) : Host.Outcome State Fault Refusal :=
  serve .readConv (fun cfg s => advance (planReadConv s.params cfg) s) s

end Sys2Proof.Machine
end

