-- ==== Sys2Proof/Machine/GeometryRequest.lean ====
section
/-! DEFINITION. GEOM_READ (`41_frame_geometry.md`). -/

namespace Sys2Proof.Machine

/-- GEOM_READ, R90: the lengths of the snapshot and the `UNITS` register itself. -/
def execGeomRead (s : State) : Host.Outcome State Fault Refusal :=
  serve .geomRead (fun cfg s =>
    s.respond statusOk (some (geomByte (regLen cfg) (convBytes cfg) s.units)) []) s

end Sys2Proof.Machine
end

