-- ==== Sys2Proof/Machine/MaskedAccess.lean ====
section
/-! DEFINITION. READ_MASKED and WRITE_MASKED (`43_masked_access.md`). -/

namespace Sys2Proof.Machine

/-- The rule of READ_MASKED, R106: checked on the full byte, then masked. -/
def planReadMasked (p : Params) (cfg : Cfg) (a m : Byte) : Plan :=
  regRead p cfg.cm (regAddr a) fun r =>
    match r.value with
    | none => .done r.status none []
    | some val => .done r.status (some (val &&& m)) r.rx

/-- READ_MASKED, R106. -/
def execReadMasked (a m : Byte) (s : State) : Host.Outcome State Fault Refusal :=
  serve (.readMasked a m) (fun cfg s => advance (planReadMasked s.params cfg a m) s) s

/-- The rule of WRITE_MASKED, R107: no write after a failed read (R109), a write with the suspect
value after a mismatch (R110), the statuses combined by OR (R111). -/
def planWriteMasked (p : Params) (cfg : Cfg) (a m v : Byte) : Plan :=
  regRead p cfg.cm (regAddr a) fun r =>
    match r.value with
    | none => .done transportErr none []
    | some old =>
      regWrite p cfg.cm (regAddr a) (mergeField old m v) fun st2 =>
        .done (r.status ||| st2) (some (mergeField old m v)) r.rx

/-- WRITE_MASKED, R107. -/
def execWriteMasked (a m v : Byte) (s : State) : Host.Outcome State Fault Refusal :=
  serve (.writeMasked a m v) (fun cfg s => advance (planWriteMasked s.params cfg a m v) s) s

end Sys2Proof.Machine
end

