-- ==== Sys2Proof/Machine/RegisterTransactions.lean ====
section
/-! DEFINITION. READ_REG and WRITE_REG (`42_register_transactions.md`). -/

namespace Sys2Proof.Machine

/-- The rule of READ_REG, R96. -/
def planReadReg (p : Params) (cfg : Cfg) (a : Byte) : Plan :=
  regRead p cfg.cm (regAddr a) fun r => .done r.status r.value r.rx

/-- READ_REG, R96. -/
def execReadReg (a : Byte) (s : State) : Host.Outcome State Fault Refusal :=
  serve (.readReg a) (fun cfg s => advance (planReadReg s.params cfg a) s) s

/-- The rule of WRITE_REG, R100: status only, the received bytes are discarded (R102). -/
def planWriteReg (p : Params) (cfg : Cfg) (a v : Byte) : Plan :=
  regWrite p cfg.cm (regAddr a) v fun st => .done st none []

/-- WRITE_REG, R100. -/
def execWriteReg (a v : Byte) (s : State) : Host.Outcome State Fault Refusal :=
  serve (.writeReg a v) (fun cfg s => advance (planWriteReg s.params cfg a v) s) s

end Sys2Proof.Machine
end

