-- ==== Sys2Proof/Machine/Dispatch.lean ====
section
/-! DEFINITION. The dispatch of a request to its meaning, one arm per constructor. -/

namespace Sys2Proof.Machine

def exec (i : Instr) (s : State) : Host.Outcome State Fault Refusal :=
  match i with
  | .crc8 seed data => Sys2Proof.Machine.execCrc8 seed data s
  | .xor8 seed data => Sys2Proof.Machine.execXor8 seed data s
  | .cfgWrite cfg => Sys2Proof.Machine.execCfgWrite cfg s
  | .cfgRead => Sys2Proof.Machine.execCfgRead s
  | .geomRead => Sys2Proof.Machine.execGeomRead s
  | .readReg a => Sys2Proof.Machine.execReadReg a s
  | .writeReg a v => Sys2Proof.Machine.execWriteReg a v s
  | .readMasked a m => Sys2Proof.Machine.execReadMasked a m s
  | .writeMasked a m v => Sys2Proof.Machine.execWriteMasked a m v s
  | .readConv => Sys2Proof.Machine.execReadConv s

end Sys2Proof.Machine
end

