-- ==== Sys2Proof/Machine/Sequencer.lean ====
section
/-! DEFINITION. What the sequencer does between the requester's moves: go on with the request it
is running (`10_state.md` R25, R26; `70_reset_and_hazards.md` R153, R156). -/

namespace Sys2Proof.Machine

/-- The state with the requester's next move taken. -/
def State.takeMove (s : State) : State := { s with moves := s.moves.tail }

/-- The exchanges of a request's rule, `none` for the requests that issue none
(`20_memory.md` R40). -/
def requestPlan (p : Params) (cfg : Cfg) : Instr → Option Plan
  | .crc8 _ _ => none
  | .xor8 _ _ => none
  | .cfgWrite _ => none
  | .cfgRead => none
  | .geomRead => none
  | .readReg a => some (planReadReg p cfg a)
  | .writeReg a v => some (planWriteReg p cfg a v)
  | .readMasked a m => some (planReadMasked p cfg a m)
  | .writeMasked a m v => some (planWriteMasked p cfg a m v)
  | .readConv => some (planReadConv p cfg)

/-- The latched request goes on from where it waits, with the latched snapshot of `CFG` (R26). -/
def State.resume (s : State) : State :=
  match s.latched with
  | none => s
  | some l =>
    match requestPlan s.params l.cfg l.request with
    | none => s
    | some p => advance (p.after l.answers) s

/-- The block left to itself: in IDLE nothing happens, in BUSY the running request goes on. -/
def State.proceed (s : State) : State :=
  match s.seq with
  | .idle => s
  | .busy => s.resume

end Sys2Proof.Machine
end

