-- ==== Sys2Proof/Machine/Step.lean ====
section
/-! DEFINITION. One step of the machine: the requester's next move, or the block left to itself. -/

namespace Sys2Proof.Machine

/-- One step. A reset and a read act in IDLE and in BUSY (D32, `70_reset_and_hazards.md` R145). A
request offered while BUSY waits at the requester's side (R153). A request offered in IDLE is
decoded and run, or refused with ILLEGAL (`30_encoding.md` R60, R71).

DESIGN CHOICE (log 15): D32 lets the requester read and reset at any time and gives no order between
its moves and a running request. The list of moves fixes that order: a pending read or reset is
taken before the running request goes on, and a `pass` lets the request go on first. -/
def step (s : State) : Host.Outcome State Fault Refusal :=
  match s.moves with
  | [] => .next s.proceed
  | .reset :: _ => .next s.takeMove.resetBlock
  | .read o :: _ => .next (s.takeMove.readMove o)
  | .pass :: _ => .next s.takeMove.proceed
  | .request w d :: _ =>
    match s.seq with
    | .busy => .next s.proceed
    | .idle =>
      match decode w d with
      | .ok i => exec i s.takeMove
      | .error _ => .next s.takeMove.refuse

/-- The state in which the next step runs the request of a table word: the block is IDLE with
nothing latched, and the request is the requester's next move (log 10). -/
def State.withFetchWord (s : State) (nbits w : Nat) : State :=
  { s with
    seq := .idle
    latched := none
    moves := .request (tableWord nbits w) (tableData (tableWord nbits w)) :: s.moves }

end Sys2Proof.Machine
end

