-- ==== Sys2Proof/Safety.lean ====
section
/-! DEFINITION. The terms in which claims about the machine are stated: the invariant of its
states, and the state in which a request leaves the machine when its exchanges are over. -/

namespace Sys2Proof.Machine

/-- Does the plan wait at an exchange after these answers, each as long as the frame it answers
(`00_scope.md` R14)? -/
def Plan.waitsAfter : Plan → List (Option Frame) → Prop
  | .done _ _ _, _ => False
  | .exchange _ _, [] => True
  | .exchange tx rest, a :: as =>
    (∀ rx, a = some rx → rx.length = tx.length) ∧ (rest a).waitsAfter as

/-- The response registers are as some response, or reset, leaves them: `10_state.md` R27 to R30,
`30_encoding.md` R64; what reset leaves before the first response is log 5. -/
structure Resp.Legal (r : Resp) : Prop where
  valid_after_response : r.valueValid = true → r.written = true
  cleared_before_response : r.written = false → r = Resp.cleared
  status_reachable : r.status ∈ [0b000#3, 0b001#3, 0b010#3, 0b011#3, 0b100#3]
  rx_short : r.rx.length ≤ 6
  illegal_alone : r.status = 0b100#3 → r.valueValid = false ∧ r.rx = []

/-- `SEQ` and the latch agree: in IDLE nothing is latched; in BUSY a request waits at one of its
exchanges, and its snapshot equals `CFG` (`10_state.md` R25, R26). -/
def State.LatchLegal (s : State) : Prop :=
  match s.seq with
  | .idle => s.latched = none
  | .busy =>
    ∃ l p, s.latched = some l ∧ l.cfg = s.cfg ∧
      requestPlan s.params l.cfg l.request = some p ∧ p.waitsAfter l.answers

/-- A completed exchange is 2 to 6 bytes long, its command byte has bit 7 = 0, and what came back
has its length: `20_memory.md` R42, `30_encoding.md` R61, `00_scope.md` R14. -/
structure Exchange.Legal (e : Exchange) : Prop where
  length_range : 2 ≤ e.tx.length ∧ e.tx.length ≤ 6
  command_bit_seven : (e.tx.headD 0xFF#8).msb = false
  received_length : ∀ rx, e.rx = some rx → rx.length = e.tx.length

/-- The invariant of the machine. -/
structure State.Inv (s : State) : Prop where
  /-- `UNITS = ceil(CONV_BYTES(CFG) / 2)`, `10_state.md` R23. -/
  units_fresh : s.units.toNat = (convBytes s.cfg + 1) / 2
  resp_legal : s.resp.Legal
  latch_legal : s.LatchLegal
  bus_legal : ∀ e ∈ s.bus, e.Legal

/-- The transport after `n` more answers. -/
def Transport.skip (n : Nat) (t : Transport) : Transport :=
  { script := t.script.drop n, calls := t.calls + n }

/-- The state after a request that performed the exchanges `issued`, in this order, and responded
`(st, val, rx)`; everything else is as before the request. A `none` is `invalid`, after which
`RESP.value` holds a free value, numbered by the counter of responses (log 16). -/
def State.responded (issued : List Exchange) (st : BitVec 3) (val : Option Byte) (rx : Frame)
    (s : State) : State :=
  { s with
    seq := .idle
    latched := none
    transport := s.transport.skip issued.length
    bus := s.bus ++ issued
    resp :=
      { status := st
        valueValid := val.isSome
        value := val.getD (Config.undefinedValue s.draws)
        rx := rx
        written := true }
    draws := s.draws + 1 }

/-- The end of a run, D29, where no fault was recorded: a state with a recorded fault "is never
final" (`93_implementation_defined.md`, log 5). -/
def State.Final (s : State) : Prop := s.seq = .idle ∧ s.moves = [] ∧ s.faults = []

/-- The premise that every exchange answers, and at once (`93_implementation_defined.md` I12). -/
def Transport.Answers (t : Transport) : Prop := ∀ r ∈ t.script, r ≠ .wait ∧ r ≠ .never

end Sys2Proof.Machine
end

