-- ==== Sys2Proof/Certificates/Slice0/Obligations.lean ====
section
/-! DEFINITION. The statements for the provers, and the vocabulary they are written in. Each
docstring says which sentences of `spec/` it formalises and which of the spec's own decisions
(`92_eei_decisions.md` D<n>) or log entries it rests on. -/

namespace Sys2Proof.Claims

open Sys2Proof.Machine

/-! ### Vocabulary -/

/-- `READ|A`: bit 6 set, bits 5:0 the address, bit 7 clear. -/
def readCmd (a : Byte) : Byte := 0x40#8 ||| (a &&& 0x3F#8)

/-- `WRITE|A`: bits 5:0 the address, bits 7 and 6 clear. -/
def writeCmd (a : Byte) : Byte := a &&& 0x3F#8

/-- The frame a register read sends. -/
def readTx (cm : ChecksumMode) (a : Byte) : Frame :=
  if cm = .none then [readCmd a, 0x00#8] else [readCmd a, 0x00#8, 0x00#8]

/-- The frame a register write sends. -/
def writeTx (poly : Byte) (cm : ChecksumMode) (a v : Byte) : Frame :=
  if cm = .none then [writeCmd a, v] else [writeCmd a, v, crc8 poly [writeCmd a, v] 2 0x00#8]

/-- The status of a register read that received `rx`. -/
def readStatus (poly : Byte) (cm : ChecksumMode) (a : Byte) (rx : Frame) : BitVec 3 :=
  if cm = .none then 0b000#3
  else if (if cm = .crc8 then crc8 poly [readCmd a, rx.getD 1 0x00#8] 2 0x00#8
      else readCmd a ^^^ rx.getD 1 0x00#8) = rx.getD 2 0x00#8 then 0b000#3
  else 0b010#3

/-- The merged value of a masked write. -/
def merged (old m v : Byte) : Byte := (old &&& ~~~m) ||| v

/-- `REG_LEN` and `CONV_BYTES` as `41_frame_geometry.md` R85 and R86 give them. -/
def regLength (c : Cfg) : Nat := if c.cm = .none then 2 else 3

@[inherit_doc regLength]
def convLength (c : Cfg) : Nat :=
  (if c.sw = .w24 then 3 else 2) + (if c.cm = .none then 0 else 1) + (if c.sb = true then 1 else 0)

/-- The frame a conversion read sends. -/
def convTx (p : Params) (c : Cfg) : Frame :=
  readCmd (p.adcDataAddr.setWidth 8) :: List.replicate (convLength c) 0x00#8

/-- The fields of a request word that a request's row forbids: `30_encoding.md` R57 and R60, on
the numbers of the fields. -/
def Malformed (w : Word) (d : Frame) : Prop :=
  let op := w.toNat % 16
  let rsv := w.toNat / 16 % 16
  let a := w.toNat / 2 ^ 8 % 256
  let m := w.toNat / 2 ^ 16 % 256
  let v := w.toNat / 2 ^ 24
  op = 0 ∨ 11 ≤ op ∨ rsv ≠ 0 ∨
    (op = 1 ∧ (m ≠ 0 ∨ d.length ≠ a)) ∨
    (op = 2 ∧ (m ≠ 0 ∨ 3 < a ∨ d.length ≠ a)) ∨
    (op = 3 ∧ (a ≠ 0 ∨ m ≠ 0 ∨ 16 ≤ v ∨ v % 4 = 3 ∨ d ≠ [])) ∨
    ((op = 4 ∨ op = 5 ∨ op = 10) ∧ (a ≠ 0 ∨ m ≠ 0 ∨ v ≠ 0 ∨ d ≠ [])) ∨
    (op = 6 ∧ (m ≠ 0 ∨ v ≠ 0 ∨ d ≠ [])) ∨
    (op = 7 ∧ (m ≠ 0 ∨ d ≠ [])) ∨
    (op = 8 ∧ (v ≠ 0 ∨ d ≠ [])) ∨
    (op = 9 ∧ d ≠ [])

/-- One register read at `A`: at most one exchange, exactly one when the request has ended. -/
def OneRead (c : Cfg) (ended : Prop) (es : List Exchange) (a : Byte) : Prop :=
  es.length ≤ 1 ∧ (ended → es.length = 1) ∧
    ∀ e ∈ es, e.tx.length = regLength c ∧ e.tx.head? = some (readCmd a)

/-- Which exchanges a request performs, `20_memory.md` R40 and R42; `ended` says that the request
has responded, where it may otherwise still wait at an exchange. -/
def Issues (p : Params) (c : Cfg) (ended : Prop) (es : List Exchange) : Instr → Prop
  | .crc8 _ _ => es = []
  | .xor8 _ _ => es = []
  | .cfgWrite _ => es = []
  | .cfgRead => es = []
  | .geomRead => es = []
  | .readReg a => OneRead c ended es a
  | .readMasked a _ => OneRead c ended es a
  | .writeReg a _ =>
    es.length ≤ 1 ∧ (ended → es.length = 1) ∧
      ∀ e ∈ es, e.tx.length = regLength c ∧ e.tx.head? = some (writeCmd a)
  | .writeMasked a _ _ =>
    es.length ≤ 2 ∧ (ended → 1 ≤ es.length) ∧
      (∀ e ∈ es, e.tx.length = regLength c) ∧
      (∀ e, es[0]? = some e → e.tx.head? = some (readCmd a) ∧
        (ended → (es.length = 2 ↔ e.rx ≠ none))) ∧
      (∀ e, es[1]? = some e → e.tx.head? = some (writeCmd a))
  | .readConv =>
    es.length ≤ 1 ∧ (ended → es.length = 1) ∧
      ∀ e ∈ es, e.tx = convTx p c ∧ e.tx.length = convLength c + 1 ∧
        3 ≤ e.tx.length ∧ e.tx.length ≤ 6

/-- The requests that perform exchanges, R40. -/
def Exchanging (i : Instr) : Prop :=
  (∃ a, i = .readReg a) ∨ (∃ a v, i = .writeReg a v) ∨ (∃ a m, i = .readMasked a m) ∨
    (∃ a m v, i = .writeMasked a m v) ∨ i = .readConv

/-- Bytes and byte sequences as polynomials over GF(2), `40_checksum.md` R81. -/
noncomputable def bytePoly (b : Byte) : Polynomial (ZMod 2) :=
  ∑ i ∈ Finset.range 8, if b.getLsbD i then Polynomial.X ^ i else 0

@[inherit_doc bytePoly]
noncomputable def framePoly (s : Frame) : Polynomial (ZMod 2) :=
  s.foldl (fun p b => p * Polynomial.X ^ 8 + bytePoly b) 0

end Sys2Proof.Claims

open Sys2Proof Sys2Proof.Machine Sys2Proof.Claims

/-! ### Encoding -/

/-- Decoding an encoded well-formed request gives it back (the encoding of R54 to R58 and R66,
which is the spec's own choice, D2, D3, D6, D27). -/
def Obligations.DecodeOfEncode : Prop :=
  ∀ i : Instr, i.wellFormed = true → decode (encode i).1 (encode i).2 = .ok i

/-- A word and data operand that decode are those the request encodes to, and the request is well
formed: no bit of an accepted request is lost (R54, R71; D2, D3). -/
def Obligations.EncodeOfDecode : Prop :=
  ∀ (w : Word) (d : Frame) (i : Instr), decode w d = .ok i →
    encode i = (w, d) ∧ i.wellFormed = true

/-- The decoder refuses exactly the requests R60 names, R57's must-be-zero fields, R55's data
lengths and R59's reserved opcodes among them (D3, D4, D15). -/
def Obligations.RefusedExactlyWhenMalformed : Prop :=
  ∀ (w : Word) (d : Frame), (∃ e, decode w d = .error e) ↔ Malformed w d

/-- The rows of R58: no word selects two of them (D3). -/
def Obligations.OpcodeRowsDisjoint : Prop :=
  [rowCrc8, rowXor8, rowCfgWrite, rowCfgRead, rowGeomRead, rowReadReg, rowWriteReg, rowReadMasked,
    rowWriteMasked, rowReadConv].Pairwise fun r r' =>
      ∀ w : Word, ¬ (selects w r = true ∧ selects w r' = true)

/-- Some words of R68 and of the examples of R74, R77, R96, R100, R106, R107, R114 and R123. -/
def Obligations.ExampleWordsDecode : Prop :=
  decode 0x00000201#32 [0x02#8, 0x00#8] = .ok (.crc8 0x00#8 [0x02#8, 0x00#8]) ∧
  decode 0x6C000302#32 [0x12#8, 0x34#8, 0x56#8] = .ok (.xor8 0x6C#8 [0x12#8, 0x34#8, 0x56#8]) ∧
  decode 0x0E000003#32 [] = .ok (.cfgWrite ⟨.crc8, .w24, true⟩) ∧
  decode 0x00000004#32 [] = .ok .cfgRead ∧
  decode 0x00000005#32 [] = .ok .geomRead ∧
  decode 0x00001506#32 [] = .ok (.readReg 0x15#8) ∧
  decode 0x2F001507#32 [] = .ok (.writeReg 0x15#8 0x2F#8) ∧
  decode 0x00301508#32 [] = .ok (.readMasked 0x15#8 0x30#8) ∧
  decode 0x20301509#32 [] = .ok (.writeMasked 0x15#8 0x30#8 0x20#8) ∧
  decode 0x0000000A#32 [] = .ok .readConv

/-! ### The step -/

/-- A request offered to an idle block that decodes is run: the step is `exec` of it, with the
requester's move taken and nothing else around it (R25, R71; log 1). -/
def Obligations.StepRunsDecodedRequest : Prop :=
  ∀ (s : State) (w : Word) (d : Frame) (ms : List Move) (i : Instr),
    s.seq = .idle → s.moves = .request w d :: ms → decode w d = .ok i →
    step s = exec i { s with moves := ms }

/-- A refused request ends with `respond(ILLEGAL, invalid, [])` and changes nothing but the
response (R60, R131; D4). That an idle block has nothing latched is log entry 6; the free value in
`RESP.value` and its counter are log entry 16. -/
def Obligations.RefusedRequestOnlyResponds : Prop :=
  ∀ (s : State) (w : Word) (d : Frame) (ms : List Move) (e : DecodeError),
    s.seq = .idle → s.latched = none → s.moves = .request w d :: ms → decode w d = .error e →
    ∃ v : Byte, step s = .next { s with
      moves := ms
      draws := s.draws + 1
      resp :=
        { status := 0b100#3, valueValid := false, value := v, rx := [], written := true } }

/-- While BUSY the block accepts no request: an offered one waits at the requester's side, and the
block goes on as if none were offered (R25, R153; D19). A requester that passes lets the block go on
in the same way, in IDLE and in BUSY, and the move is taken (the model's choice, log 15). -/
def Obligations.BusyBlockLeavesOfferWaiting : Prop :=
  (∀ (s : State) (w : Word) (d : Frame) (ms : List Move),
    s.seq = .busy → s.moves = .request w d :: ms →
    ∃ t, step { s with moves := [] } = .next { t with moves := [] } ∧
      step s = .next t ∧ t.moves = s.moves) ∧
  ∀ (s : State) (ms : List Move), s.moves = .pass :: ms →
    ∃ t, step { s with moves := [] } = .next { t with moves := [] } ∧
      step s = .next t ∧ t.moves = ms

/-- In IDLE with nothing offered, nothing happens (R144; the model's choice, log 1). -/
def Obligations.IdleBlockWaits : Prop :=
  ∀ s : State, s.seq = .idle → s.moves = [] → step s = .next s

/-- Reset, in IDLE and in BUSY: the block takes its reset values, a running request is abandoned,
and no exchange is issued (R143, R145; D16, D17, D38; log 7). The spec gives the response registers
no value after reset, said by `written` and `valueValid`; what they hold is the model's choice, log
entry 5. -/
def Obligations.ResetStepTakesResetValues : Prop :=
  ∀ (s : State) (ms : List Move), s.moves = .reset :: ms →
    ∃ t, step s = .next t ∧ t.cfg = s.params.init ∧
      t.units.toNat = (convLength s.params.init + 1) / 2 ∧
      t.seq = .idle ∧ t.latched = none ∧ t.resp.written = false ∧ t.resp.valueValid = false ∧
      t.resp.status = 0b000#3 ∧ t.resp.value = 0x00#8 ∧ t.resp.rx = [] ∧
      t.params = s.params ∧ t.transport = s.transport ∧ t.bus = s.bus ∧ t.moves = ms ∧
      t.draws = s.draws ∧ t.faults = s.faults

/-- What reset leaves (R143; D16, D17); what the response registers hold, where the spec gives them
no value, is the model's choice, log entry 5. -/
def Obligations.ResetStateHoldsStatedValues : Prop :=
  State.reset.cfg = State.reset.params.init ∧
  State.reset.units.toNat = (convLength State.reset.params.init + 1) / 2 ∧
  State.reset.seq = .idle ∧ State.reset.latched = none ∧
  State.reset.resp.written = false ∧ State.reset.resp.valueValid = false ∧
  State.reset.resp.status = 0b000#3 ∧ State.reset.resp.value = 0x00#8 ∧
  State.reset.resp.rx = []

/-- A read of a response register that holds no value by the spec's account records the register's
fault, and the machine goes on with nothing else changed (R27, R29, R30, R143; D12, D17; I6, I14).
That to fault is to record the fault, and the machine goes on, is log entry 5. -/
def Obligations.ReadsOfUnsetResponseRecordFault : Prop :=
  ∀ (s : State) (ms : List Move),
    (s.moves = .read .respStatus :: ms → s.resp.written = false →
      step s = .next { s with moves := ms, faults := s.faults ++ [.status] }) ∧
    (s.moves = .read .respValue :: ms → s.resp.valueValid = false →
      step s = .next { s with moves := ms, faults := s.faults ++ [.value] }) ∧
    (s.moves = .read .respRx :: ms → s.resp.written = false →
      step s = .next { s with moves := ms, faults := s.faults ++ [.rx] })

/-- The outputs read what the state holds: a response register its value, the ports the lengths of
`CFG` and the register `UNITS`, whatever `SEQ` is (R27 to R30, R91; D17, D18). A read of a port, of
`RESP.value_valid`, or of a response register that holds a value by the spec's account changes
nothing, in IDLE and in BUSY, but that the requester's move is taken (D32; log 1). -/
def Obligations.OutputsReadTheState : Prop :=
  ∀ s : State,
    s.readOutput .respStatus = .status s.resp.status ∧
    s.readOutput .respValueValid = .valueValid s.resp.valueValid ∧
    s.readOutput .respValue = .value s.resp.value ∧
    s.readOutput .respRx = .rx s.resp.rx ∧
    s.readOutput .regLenPort = .regLen (BitVec.ofNat 2 (regLength s.cfg)) ∧
    s.readOutput .convBytesPort = .convBytes (BitVec.ofNat 3 (convLength s.cfg)) ∧
    s.readOutput .convUnitsPort = .convUnits s.units ∧
    ∀ (o : Output) (ms : List Move), s.moves = .read o :: ms →
      (o = .respStatus ∨ o = .respRx → s.resp.written = true) →
      (o = .respValue → s.resp.valueValid = true) →
      step s = .next { s with moves := ms }

/-- Nothing stops the machine (R134): every step answers a next state. A recorded fault stays
recorded, so the run never ends in a final state, and only a read of `RESP.status`, `RESP.value` or
`RESP.rx` records one (R27, R29, R30; log 5). -/
def Obligations.NoStepStops : Prop :=
  ∀ s : State, ∃ t fs, step s = .next t ∧ t.faults = s.faults ++ fs ∧ fs.length ≤ 1 ∧
    (s.faults ≠ [] → ¬ t.Final) ∧
    (fs ≠ [] → ∃ o ms, s.moves = .read o :: ms ∧
      (o = .respStatus ∨ o = .respValue ∨ o = .respRx))

/-! ### Checksums -/

/-- The CRC-8 generator is bit-serial, most significant bit first, with no other step. -/
def Obligations.Crc8IsBitSerial : Prop :=
  ∀ (poly : Byte) (s : Frame) (seed : Byte),
    crc8 poly s 0 seed = seed ∧
    ∀ (n : Nat) (h : n < s.length),
      crc8 poly s (n + 1) seed =
        [7, 6, 5, 4, 3, 2, 1, 0].foldl
          (fun (c : Byte) (i : Nat) =>
            if c.getLsbD 7 ≠ s[n].getLsbD i then (c <<< 1) ^^^ poly else c <<< 1)
          (crc8 poly s n seed)

/-- Chaining (R81). -/
def Obligations.Crc8Chains : Prop :=
  ∀ (poly : Byte) (s t : Frame) (seed : Byte),
    crc8 poly (s ++ t) (s.length + t.length) seed =
      crc8 poly t t.length (crc8 poly s s.length seed)

/-- Linearity over XOR (R81). -/
def Obligations.Crc8IsLinear : Prop :=
  ∀ (poly : Byte) (a b : Frame) (n : Nat) (sa sb : Byte), a.length = b.length → n ≤ a.length →
    crc8 poly (List.zipWith (· ^^^ ·) a b) n (sa ^^^ sb) = crc8 poly a n sa ^^^ crc8 poly b n sb

/-- The result is the remainder of `seed(x) * x^(8n) + S(x) * x^8` by `x^8 + P(x)` (R81). -/
def Obligations.Crc8IsRemainder : Prop :=
  ∀ (poly : Byte) (s : Frame) (n : Nat) (seed : Byte), n ≤ s.length →
    bytePoly (crc8 poly s n seed) =
      (bytePoly seed * Polynomial.X ^ (8 * n) + framePoly (s.take n) * Polynomial.X ^ 8) %ₘ
        (Polynomial.X ^ 8 + bytePoly poly)

/-- The corner values of R82. -/
def Obligations.Crc8CornerValues : Prop :=
  ∀ (poly : Byte) (s : Frame) (n : Nat) (seed : Byte),
    crc8 poly s 0 seed = seed ∧
    crc8 poly (List.replicate n 0x00#8) n 0x00#8 = 0x00#8 ∧
    crc8 poly (s ++ [crc8 poly s s.length 0x00#8]) (s.length + 1) 0x00#8 = 0x00#8 ∧
    crc8 poly [0x01#8] 1 0x00#8 = poly

/-- Single-bit sensitivity holds exactly when the polynomial constant is not 0; with 0 every
result over at least one byte is 0 (R80). -/
def Obligations.Crc8SingleBitSensitivity : Prop :=
  (∀ poly : Byte, poly ≠ 0x00#8 ↔
    ∀ (s : Frame) (n : Nat) (seed : Byte) (j i : Nat), n ≤ s.length → j < n → i < 8 →
      crc8 poly (s.modify j fun b => b ^^^ (0x01#8 <<< i)) n seed ≠ crc8 poly s n seed) ∧
  ∀ (s : Frame) (n : Nat) (seed : Byte), 1 ≤ n → n ≤ s.length → crc8 0x00#8 s n seed = 0x00#8

/-- The running XOR does not depend on the order of the bytes, and any single-bit change of the
input changes it (R83). -/
def Obligations.Xor8OrderAndSensitivity : Prop :=
  ∀ (s t : Frame) (seed : Byte), s.length ≤ 3 →
    (s.Perm t → xor8 s s.length seed = xor8 t t.length seed) ∧
    ∀ j i, j < s.length → i < 8 →
      xor8 (s.modify j fun b => b ^^^ (0x01#8 <<< i)) s.length seed ≠ xor8 s s.length seed

/-! ### The requests that perform no exchange -/

/-- CRC8 completes with the CRC of its data (R74; D25). -/
def Obligations.Crc8RequestCompletes : Prop :=
  ∀ (s : State) (seed : Byte) (data : Frame), s.seq = .idle → data.length ≤ 255 →
    exec (.crc8 seed data) s =
      .next (s.responded [] 0b000#3 (some (crc8 s.params.crc8Poly data data.length seed)) [])

/-- CRC8 neither reads nor writes `CFG`, `UNITS` or the device, in every checksum mode. -/
def Obligations.Crc8RequestIgnoresConfiguration : Prop :=
  ∀ (s : State) (seed : Byte) (data : Frame), s.seq = .idle → data.length ≤ 255 →
    ∃ r : Resp, ∀ (c : Cfg) (u : BitVec 2) (tr : Transport),
      exec (.crc8 seed data) { s with cfg := c, units := u, transport := tr } =
        .next { s with cfg := c, units := u, transport := tr, latched := none, resp := r,
                       draws := s.draws + 1 }

/-- XOR8 completes with the XOR of its seed and its data, of at most 3 bytes (R77). -/
def Obligations.Xor8RequestCompletes : Prop :=
  ∀ (s : State) (seed : Byte) (data : Frame), s.seq = .idle → data.length ≤ 3 →
    exec (.xor8 seed data) s =
      .next (s.responded [] 0b000#3 (some (seed ^^^ data.foldr (· ^^^ ·) 0x00#8)) [])

/-- More data than the request can carry is refused with ILLEGAL, also by the meaning itself
(R77, D15; for CRC8 the byte count is 8 bits, D25, log 9). -/
def Obligations.OverlongDataIsIllegal : Prop :=
  ∀ (s : State) (seed : Byte) (data : Frame), s.seq = .idle →
    (3 < data.length → exec (.xor8 seed data) s = .next (s.responded [] 0b100#3 none [])) ∧
    (255 < data.length → exec (.crc8 seed data) s = .next (s.responded [] 0b100#3 none []))

/-- CFG_WRITE writes `CFG` and `UNITS` in one step and responds with success (R123 to R125; D6,
D18). -/
def Obligations.CfgWriteCompletes : Prop :=
  ∀ (s : State) (c : Cfg), s.seq = .idle →
    ∃ u : BitVec 2, u.toNat = (convLength c + 1) / 2 ∧
      exec (.cfgWrite c) s =
        .next { s.responded [] 0b000#3 none [] with cfg := c, units := u }

/-- CFG_WRITE issues no exchange and changes nothing outside the block: the transport, the record of
exchanges and the requester's moves are as before. -/
def Obligations.CfgWriteIssuesNoExchange : Prop :=
  ∀ (s : State) (c : Cfg), s.seq = .idle →
    ∃ t, exec (.cfgWrite c) s = .next t ∧ t.bus = s.bus ∧ t.transport = s.transport ∧
      t.moves = s.moves

/-- CFG_READ gives `{0b0000, SB, SW, CM}` (R126, R66; D6, D27). -/
def Obligations.CfgReadCompletes : Prop :=
  ∀ s : State, s.seq = .idle →
    exec .cfgRead s = .next (s.responded [] 0b000#3
      (some (BitVec.ofNat 8 ((if s.cfg.sb = true then 8 else 0) +
        (if s.cfg.sw = .w24 then 4 else 0) +
        (if s.cfg.cm = .xor then 1 else if s.cfg.cm = .crc8 then 2 else 0)))) [])

/-- GEOM_READ gives `{0b0, REG_LEN, CONV_BYTES, UNITS}`, with the register `UNITS` (R90, R67;
D27). -/
def Obligations.GeomReadCompletes : Prop :=
  ∀ s : State, s.seq = .idle →
    exec .geomRead s = .next (s.responded [] 0b000#3
      (some (BitVec.ofNat 8 (regLength s.cfg * 32 + convLength s.cfg * 4 + s.units.toNat))) [])

/-- After CFG_WRITE, CFG_READ gives back the configuration and GEOM_READ its lengths: no stale
length (R124, R151; D18). The example of R123 is (CRC8, 24-bit, status byte): 0x77. -/
def Obligations.CfgWriteThenReadBack : Prop :=
  ∀ (s : State) (c : Cfg), s.seq = .idle →
    ∃ t u v, exec (.cfgWrite c) s = .next t ∧ exec .cfgRead t = .next u ∧
      exec .geomRead t = .next v ∧
      cfgOfByte u.resp.value = some c ∧ u.resp.valueValid = true ∧ v.resp.valueValid = true ∧
      v.resp.value = BitVec.ofNat 8
        (regLength c * 32 + convLength c * 4 + (convLength c + 1) / 2) ∧
      (c = ⟨.crc8, .w24, true⟩ → v.resp.value = 0x77#8)

/-- The twelve rows of R88: configuration byte, `REG_LEN`, `CONV_BYTES`, `UNITS`, geometry byte
(D6, D27). -/
def Obligations.GeometryTable : Prop :=
  ∀ r ∈ [((⟨.none, .w16, false⟩ : Cfg), 0x00#8, 2, 2, 1#2, 0x49#8),
      (⟨.none, .w16, true⟩, 0x08#8, 2, 3, 2#2, 0x4E#8),
      (⟨.xor, .w16, false⟩, 0x01#8, 3, 3, 2#2, 0x6E#8),
      (⟨.xor, .w16, true⟩, 0x09#8, 3, 4, 2#2, 0x72#8),
      (⟨.crc8, .w16, false⟩, 0x02#8, 3, 3, 2#2, 0x6E#8),
      (⟨.crc8, .w16, true⟩, 0x0A#8, 3, 4, 2#2, 0x72#8),
      (⟨.none, .w24, false⟩, 0x04#8, 2, 3, 2#2, 0x4E#8),
      (⟨.none, .w24, true⟩, 0x0C#8, 2, 4, 2#2, 0x52#8),
      (⟨.xor, .w24, false⟩, 0x05#8, 3, 4, 2#2, 0x72#8),
      (⟨.xor, .w24, true⟩, 0x0D#8, 3, 5, 3#2, 0x77#8),
      (⟨.crc8, .w24, false⟩, 0x06#8, 3, 4, 2#2, 0x72#8),
      (⟨.crc8, .w24, true⟩, 0x0E#8, 3, 5, 3#2, 0x77#8)],
    cfgByte r.1 = r.2.1 ∧ regLen r.1 = r.2.2.1 ∧ convBytes r.1 = r.2.2.2.1 ∧
      convUnits r.1 = r.2.2.2.2.1 ∧
      geomByte (regLen r.1) (convBytes r.1) (convUnits r.1) = r.2.2.2.2.2

/-! ### The requests that perform exchanges -/

/-- READ_REG when its exchange is over, in every checksum mode: `RegRead`'s frame, the value
`rx[1]`, the check against `rx[2]`; a mismatch still gives the value; a failure gives none (R94,
R96, R99). The status codes, bit 7 and the address mask, the filler byte, the value's position and
the response after a failure are the spec's own choices D5, D9, D10, D11, D12. -/
def Obligations.ReadRegCompletes : Prop :=
  ∀ (s : State) (a : Byte) (r : Option Frame), s.seq = .idle →
    s.transport.answer (readTx s.cfg.cm a).length = .answered r →
    exec (.readReg a) s = .next (
      match r with
      | none => s.responded [⟨readTx s.cfg.cm a, none⟩] 0b001#3 none []
      | some rx =>
        s.responded [⟨readTx s.cfg.cm a, some rx⟩]
          (readStatus s.params.crc8Poly s.cfg.cm a rx) (some (rx.getD 1 0x00#8)) rx)

/-- The content of `rx[0]` does not affect the status or the value of a register read, and the
checksum input begins with the command byte as sent (R97; the codes and the value's position are
D5, D11). The received bytes themselves are reported with `rx[0]` as it came. -/
def Obligations.ReadRegIgnoresFirstByte : Prop :=
  ∀ (s : State) (tr : Transport) (a : Byte) (rx rx' : Frame), s.seq = .idle →
    s.transport.answer (readTx s.cfg.cm a).length = .answered (some rx) →
    tr.answer (readTx s.cfg.cm a).length = .answered (some rx') → rx.tail = rx'.tail →
    ∃ t t', exec (.readReg a) s = .next t ∧
      exec (.readReg a) { s with transport := tr } = .next t' ∧
      t'.resp.status = t.resp.status ∧ t'.resp.value = t.resp.value ∧
      t.resp.valueValid = true ∧
      t.resp.status = readStatus s.params.crc8Poly s.cfg.cm a (0x00#8 :: rx.tail)

/-- WRITE_REG when its exchange is over: `RegWrite`'s frame, with a CRC-8 byte in XOR and CRC8
mode alike, and the transport's status only (R95, R100, R101; the codes, bit 7 and the address
mask, and the response's form are D5, D9, D24). -/
def Obligations.WriteRegCompletes : Prop :=
  ∀ (s : State) (a v : Byte) (r : Option Frame), s.seq = .idle →
    s.transport.answer (writeTx s.params.crc8Poly s.cfg.cm a v).length = .answered r →
    exec (.writeReg a v) s = .next (
      s.responded [⟨writeTx s.params.crc8Poly s.cfg.cm a v, r⟩]
        (if r = none then 0b001#3 else 0b000#3) none [])

/-- A write frame in XOR mode carries a CRC-8 byte as in CRC8 mode, and is 3 bytes in both. -/
def Obligations.WriteFrameCarriesCrc : Prop :=
  ∀ (s : State) (a v : Byte) (r : Option Frame), s.seq = .idle →
    s.cfg.cm = .xor ∨ s.cfg.cm = .crc8 → s.transport.answer 3 = .answered r →
    ∃ t e, exec (.writeReg a v) s = .next t ∧ t.bus = s.bus ++ [e] ∧ e.tx.length = 3 ∧
      e.tx[2]? = some (crc8 s.params.crc8Poly (e.tx.take 2) 2 0x00#8)

/-- READ_MASKED when its exchange is over: READ_REG's exchange and check, on the full byte, then
the mask (R106, R98; D12). -/
def Obligations.ReadMaskedCompletes : Prop :=
  ∀ (s : State) (a m : Byte) (r : Option Frame), s.seq = .idle →
    s.transport.answer (readTx s.cfg.cm a).length = .answered r →
    exec (.readMasked a m) s = .next (
      match r with
      | none => s.responded [⟨readTx s.cfg.cm a, none⟩] 0b001#3 none []
      | some rx =>
        s.responded [⟨readTx s.cfg.cm a, some rx⟩]
          (readStatus s.params.crc8Poly s.cfg.cm a rx) (some (rx.getD 1 0x00#8 &&& m)) rx)

/-- WRITE_MASKED when both exchanges are over and the first completed: the merged value is written,
also after a mismatch, and the status is the OR of the two (R107, R108, R111; the codes, bit 7,
the filler, the value's position and the write after a mismatch are D5, D9, D10, D11, D14). -/
def Obligations.WriteMaskedCompletes : Prop :=
  ∀ (s : State) (a m v : Byte) (rx : Frame) (r : Option Frame), s.seq = .idle →
    s.transport.answer (readTx s.cfg.cm a).length = .answered (some rx) →
    (s.transport.skip 1).answer
      (writeTx s.params.crc8Poly s.cfg.cm a (merged (rx.getD 1 0x00#8) m v)).length =
        .answered r →
    exec (.writeMasked a m v) s = .next (
      s.responded
        [⟨readTx s.cfg.cm a, some rx⟩,
          ⟨writeTx s.params.crc8Poly s.cfg.cm a (merged (rx.getD 1 0x00#8) m v), r⟩]
        (readStatus s.params.crc8Poly s.cfg.cm a rx ||| (if r = none then 0b001#3 else 0b000#3))
        (some (merged (rx.getD 1 0x00#8) m v)) rx)

/-- WRITE_MASKED does what a READ_REG and then a WRITE_REG of `(old & ~M) | V` do, with no masking
of `V` and with nothing undone, and its status is the bitwise OR of theirs (R107, R108, R111). That
the write follows also after a checksum mismatch is R110, the spec's own choice D14. -/
def Obligations.WriteMaskedIsReadThenWrite : Prop :=
  ∀ (s t u : State) (a m v : Byte), s.seq = .idle →
    exec (.readReg a) s = .next t → t.seq = .idle → t.resp.valueValid = true →
    exec (.writeReg a ((t.resp.value &&& ~~~m) ||| v)) t = .next u → u.seq = .idle →
    ∃ w, exec (.writeMasked a m v) s = .next w ∧ w.seq = .idle ∧ w.bus = u.bus ∧
      w.transport = u.transport ∧ w.resp.status = t.resp.status ||| u.resp.status ∧
      w.resp.valueValid = true ∧ w.resp.value = (t.resp.value &&& ~~~m) ||| v ∧
      w.resp.rx = t.resp.rx

/-- WRITE_MASKED issues no write after a failed read (R109, the spec's own choice D13). -/
def Obligations.WriteMaskedStopsAfterFailedRead : Prop :=
  ∀ (s : State) (a m v : Byte), s.seq = .idle →
    s.transport.answer (readTx s.cfg.cm a).length = .answered none →
    exec (.writeMasked a m v) s =
      .next (s.responded [⟨readTx s.cfg.cm a, none⟩] 0b001#3 none [])

/-- READ_CONV in NONE and XOR mode: nothing is checked (R114, R117, R118; the code of success and
what is returned are D5, D23). -/
def Obligations.ReadConvUncheckedModes : Prop :=
  ∀ (s : State) (rx : Frame), s.seq = .idle → s.cfg.cm = .none ∨ s.cfg.cm = .xor →
    s.transport.answer (convLength s.cfg + 1) = .answered (some rx) →
    exec .readConv s =
      .next (s.responded [⟨convTx s.params s.cfg, some rx⟩] 0b000#3 none rx)

/-- READ_CONV in CRC8 mode: the literal check over the first four received bytes against `rx[3]`
(R116, the reading of D37 and C3), which exists (R120); a mismatch still gives the bytes (R119). -/
def Obligations.ReadConvCrc8Mode : Prop :=
  ∀ (s : State) (rx : Frame), s.seq = .idle → s.cfg.cm = .crc8 →
    s.transport.answer (convLength s.cfg + 1) = .answered (some rx) →
    ∃ h : 3 < rx.length,
      exec .readConv s = .next (s.responded [⟨convTx s.params s.cfg, some rx⟩]
        (if crc8 s.params.crc8Poly rx 4 0x00#8 = rx[3] then 0b000#3 else 0b010#3) none rx)

/-- READ_CONV after a failed exchange: no bytes and no comparison (R119; D12). -/
def Obligations.ReadConvFailure : Prop :=
  ∀ s : State, s.seq = .idle → s.transport.answer (convLength s.cfg + 1) = .answered none →
    exec .readConv s = .next (s.responded [⟨convTx s.params s.cfg, none⟩] 0b001#3 none [])

/-- What the literal check accepts (R121): fixed points only, and after a correct trailing CRC over
`rx[0..3)` only the byte 0. -/
def Obligations.ReadConvCheckAcceptsFixedPoints : Prop :=
  ∀ (s : State) (rx : Frame), s.seq = .idle → s.cfg.cm = .crc8 →
    s.transport.answer (convLength s.cfg + 1) = .answered (some rx) →
    ∃ t, exec .readConv s = .next t ∧
      (t.resp.status = 0b000#3 ↔
        crc8 s.params.crc8Poly [rx.getD 3 0x00#8] 1 (crc8 s.params.crc8Poly rx 3 0x00#8) =
          rx.getD 3 0x00#8) ∧
      (rx.getD 3 0x00#8 = crc8 s.params.crc8Poly rx 3 0x00#8 →
        (t.resp.status = 0b000#3 ↔ rx.getD 3 0x00#8 = 0x00#8))

/-- Which exchanges a request performs, their lengths and their command bytes (R40, R42, R115; bit 7
and the address mask, and no write after a failed read, are D9, D13). -/
def Obligations.RequestsIssueTheirExchanges : Prop :=
  ∀ (s t : State) (i : Instr), s.seq = .idle → exec i s = .next t →
    ∃ es, t.bus = s.bus ++ es ∧ Issues s.params s.cfg (t.seq = .idle) es i

/-- `A[7:6]` is ignored by the four register requests (R56; D9): two addresses with the same
`A[5:0]` give the same state, once the request has responded. -/
def Obligations.AddressHighBitsIgnored : Prop :=
  ∀ (s t : State) (a a' m v : Byte), s.seq = .idle → a &&& 0x3F#8 = a' &&& 0x3F#8 →
    t.seq = .idle →
    (exec (.readReg a) s = .next t → exec (.readReg a') s = .next t) ∧
    (exec (.writeReg a v) s = .next t → exec (.writeReg a' v) s = .next t) ∧
    (exec (.readMasked a m) s = .next t → exec (.readMasked a' m) s = .next t) ∧
    (exec (.writeMasked a m v) s = .next t → exec (.writeMasked a' m v) s = .next t)

/-- The round trip of R113: on a transport that completes, with a device that returns in the next
read the byte the write sent, READ_MASKED gives `field & mask`, and the bits outside the mask are
preserved when the field lies inside it. -/
def Obligations.MaskedWriteRoundTrip : Prop :=
  ∀ (s : State) (a m v : Byte) (rx₁ rx₂ rx₃ : Frame), s.seq = .idle →
    s.transport.answer (regLength s.cfg) = .answered (some rx₁) →
    (s.transport.skip 1).answer (regLength s.cfg) = .answered (some rx₂) →
    (s.transport.skip 2).answer (regLength s.cfg) = .answered (some rx₃) →
    ∃ t u w, exec (.writeMasked a m v) s = .next t ∧
      ((t.bus.getLast?).map fun e => e.tx.getD 1 0x00#8) = some (merged (rx₁.getD 1 0x00#8) m v) ∧
      (rx₃.getD 1 0x00#8 = merged (rx₁.getD 1 0x00#8) m v →
        exec (.readMasked a m) t = .next u ∧ u.resp.valueValid = true ∧
        u.resp.value = v &&& m ∧
        exec (.readReg a) t = .next w ∧ w.resp.valueValid = true ∧
        (v &&& ~~~m = 0x00#8 →
          w.resp.value &&& ~~~m = rx₁.getD 1 0x00#8 &&& ~~~m))

/-! ### Waiting for the transport -/

/-- An exchange that has no answer leaves the block BUSY with the request, the snapshot of `CFG` and
the answers so far latched, and the response registers as they were: the first exchange of a
request, and the write of a WRITE_MASKED whose read completed (R25, R26, R156). Where the exchange
never completes, a step leaves everything as it is, so the block is BUSY for ever, whatever request
is offered (R139, R156; I12). How the transport gives no answer, `Reply.wait` and `Reply.never`, is
log entry 3; what is latched is log entry 6. -/
def Obligations.UnansweredExchangeLeavesBusy : Prop :=
  ∀ (s : State) (r : Reply), r = .wait ∨ r = .never →
    (∀ i : Instr, s.seq = .idle → Exchanging i → s.transport.script.head? = some r →
      exec i s = .next { s with
        seq := .busy
        latched := some { request := i, cfg := s.cfg, answers := [] }
        transport := if r = .wait then s.transport.skip 1 else s.transport }) ∧
    (∀ (a m v : Byte) (rx : Frame), s.seq = .idle →
      s.transport.answer (readTx s.cfg.cm a).length = .answered (some rx) →
      (s.transport.skip 1).script.head? = some r →
      exec (.writeMasked a m v) s = .next { s with
        seq := .busy
        latched := some
          { request := .writeMasked a m v, cfg := s.cfg, answers := [some rx] }
        bus := s.bus ++ [⟨readTx s.cfg.cm a, some rx⟩]
        transport := if r = .wait then s.transport.skip 2 else s.transport.skip 1 }) ∧
    (r = .never → s.seq = .busy → s.LatchLegal → s.transport.script.head? = some r →
      (s.moves = [] ∨ ∃ w d ms, s.moves = .request w d :: ms) → step s = .next s)

/-- A request that had to wait for its first exchange ends as it would have without the wait, on
the transport as it is after the wait (R156; log 3). -/
def Obligations.DelayedRequestEndsAlike : Prop :=
  ∀ (s : State) (i : Instr), s.seq = .idle → Exchanging i → s.moves = [] →
    s.transport.script.head? = some .wait →
    ∃ t u, exec i s = .next t ∧ step t = .next u ∧
      exec i { s with transport := s.transport.skip 1 } = .next u

/-- A WRITE_MASKED that waits for its write goes on with the byte it read and with the latched
snapshot of `CFG`, whatever `CFG` holds (R26, R93; D20; log 3). -/
def Obligations.WaitingWriteUsesSnapshot : Prop :=
  ∀ (s : State) (c : Cfg) (a m v : Byte) (rx : Frame) (r : Option Frame), s.seq = .busy →
    s.moves = [] →
    s.latched = some { request := .writeMasked a m v, cfg := c, answers := [some rx] } →
    s.transport.answer
      (writeTx s.params.crc8Poly c.cm a (merged (rx.getD 1 0x00#8) m v)).length = .answered r →
    step s = .next (
      s.responded [⟨writeTx s.params.crc8Poly c.cm a (merged (rx.getD 1 0x00#8) m v), r⟩]
        (readStatus s.params.crc8Poly c.cm a rx ||| (if r = none then 0b001#3 else 0b000#3))
        (some (merged (rx.getD 1 0x00#8) m v)) rx)

/-- When every exchange answers (the premise of I12, in the form log entry 3 gives it), every
request completes: the block is back in IDLE with a response written, and with none of the answers left
waiting. That nothing is latched then is the model's choice, log entry 6. -/
def Obligations.RequestsCompleteWhenExchangesAnswer : Prop :=
  ∀ (s : State) (i : Instr), s.seq = .idle → s.transport.Answers →
    ∃ t, exec i s = .next t ∧ t.seq = .idle ∧ t.latched = none ∧
      t.resp.written = true ∧ t.transport.Answers

/-! ### Status -/

/-- TRANSPORT_ERR: set exactly when an exchange failed; what is recorded beside it; no retry (R129;
the bit and the response after a failure are D5, D12). That WRITE_MASKED performs no exchange at all
after a failed read is R109, the spec's own choice D13. -/
def Obligations.TransportErrorReporting : Prop :=
  ∀ (s t : State) (i : Instr), s.seq = .idle → exec i s = .next t →
    t.seq = .idle →
    ∃ es, t.bus = s.bus ++ es ∧
      (t.resp.status.getLsbD 0 = true ↔ ∃ e ∈ es, e.rx = none) ∧
      (t.resp.status.getLsbD 0 = true → Exchanging i) ∧
      (∀ e ∈ es.dropLast, e.rx ≠ none) ∧
      (t.resp.status.getLsbD 0 = true → es.length ≤ 1 →
        t.resp.status = 0b001#3 ∧ t.resp.valueValid = false ∧ t.resp.rx = []) ∧
      (t.resp.status.getLsbD 0 = true → ∀ e₁ e₂, es = [e₁, e₂] →
        t.resp.valueValid = true ∧ e₂.tx[1]? = some t.resp.value ∧ e₁.rx = some t.resp.rx)

/-- CHECKSUM_ERR: only from a completed read exchange that is checked, and the suspect bytes are
recorded (R130). -/
def Obligations.ChecksumErrorReporting : Prop :=
  ∀ (s t : State) (i : Instr), s.seq = .idle → exec i s = .next t →
    t.seq = .idle → t.resp.status.getLsbD 1 = true →
    s.cfg.cm ≠ .none ∧
    (((∃ a, i = .readReg a) ∨ (∃ a m, i = .readMasked a m) ∨ ∃ a m v, i = .writeMasked a m v) ∧
        t.resp.valueValid = true ∨
      i = .readConv ∧ s.cfg.cm = .crc8 ∧ t.resp.valueValid = false) ∧
    ∃ es e, t.bus = s.bus ++ e :: es ∧ e.rx = some t.resp.rx

/-- Failures are not sticky: what a completed request leaves does not depend on the response
registers before it (R133, R154; D5, D17). -/
def Obligations.ResponsesAreNotSticky : Prop :=
  ∀ (s t : State) (i : Instr) (r : Resp), s.seq = .idle → exec i s = .next t → t.seq = .idle →
    exec i { s with resp := r } = .next t

/-! ### Frames and invariants -/

/-- CRC8, XOR8, CFG_READ and GEOM_READ change the response registers only, and the model's own
counter of responses (log 16). An idle block has nothing latched (log 6). -/
def Obligations.ReadOnlyRequestsFrame : Prop :=
  ∀ (s t : State) (i : Instr), (s.seq = .idle → s.latched = none) →
    ((∃ x d, i = .crc8 x d) ∨ (∃ x d, i = .xor8 x d) ∨ i = .cfgRead ∨ i = .geomRead) →
    exec i s = .next t → t = { s with resp := t.resp, draws := t.draws }

/-- CFG_WRITE changes `CFG`, `UNITS` and the response registers only (log 6 and 16 as above). -/
def Obligations.CfgWriteFrame : Prop :=
  ∀ (s t : State) (c : Cfg), (s.seq = .idle → s.latched = none) →
    exec (.cfgWrite c) s = .next t →
    t = { s with cfg := t.cfg, units := t.units, resp := t.resp, draws := t.draws }

/-- The five requests that perform exchanges leave the parameters, `CFG`, `UNITS` and the
requester's moves as they are, only add completed exchanges, and write the response registers only
when they end (R19 to R23, R154). They record no fault, and the counter of responses is log 16. -/
def Obligations.ExchangingRequestsFrame : Prop :=
  ∀ (s t : State) (i : Instr), Exchanging i → exec i s = .next t →
    t = { s with
      seq := t.seq, latched := t.latched, resp := t.resp, transport := t.transport, bus := t.bus,
      draws := t.draws } ∧
    s.bus <+: t.bus ∧ (t.seq = .busy → t.resp = s.resp)

/-- `CFG` and `UNITS` change only by an accepted CFG_WRITE or by reset (R19 to R23). -/
def Obligations.ConfigurationChangesOnlyByCfgWriteOrReset : Prop :=
  ∀ s t : State, step s = .next t → t.cfg ≠ s.cfg ∨ t.units ≠ s.units →
    (∃ ms, s.moves = .reset :: ms) ∨
    ∃ w d ms c, s.seq = .idle ∧ s.moves = .request w d :: ms ∧
      decode w d = .ok (.cfgWrite c) ∧ t.cfg = c

/-- A step never changes the parameters (log 4), and the record of completed exchanges only grows,
by at most two exchanges (R32, R42, R50). -/
def Obligations.ParametersFixedAndBusGrows : Prop :=
  ∀ s t : State, step s = .next t →
    t.params = s.params ∧ ∃ es, es.length ≤ 2 ∧ t.bus = s.bus ++ es

/-- The machine is reset in the invariant. -/
def Obligations.ResetMeetsInvariant : Prop := State.reset.Inv

/-- Every step keeps the invariant: the length cache is fresh, the response registers are as a
response leaves them (a status the spec has, ILLEGAL alone, at most 6 bytes) or as reset does (the
model's values, log entry 5), the latch and `SEQ` agree, and every completed exchange is a frame of 2
to 6 bytes with bit 7 of its command byte clear (R14, R23, R27 to R30, R42, R61, R64; the status
codes and bit 7 are D5 and D9). What "agree" means is in part the model's choice: that an idle
block has nothing latched is log entry 6, that a state is BUSY only while a request waits at one of
its exchanges is log entry 12. -/
def Obligations.StepKeepsInvariant : Prop :=
  ∀ s t : State, s.Inv → step s = .next t → t.Inv
end

