-- ==== Sys2Proof/Laws/State.lean ====
section
/-! SUPPORT. One lemma per field per update of the state, each true by `rfl`, and the response of a
refused request. -/

namespace Sys2Proof.Machine

/-! ### `State.respond` -/

@[simp] theorem respond_params (st : BitVec 3) (val : Option Byte) (rx : Frame) (s : State) :
    (s.respond st val rx).params = s.params := rfl
@[simp] theorem respond_cfg (st : BitVec 3) (val : Option Byte) (rx : Frame) (s : State) :
    (s.respond st val rx).cfg = s.cfg := rfl
@[simp] theorem respond_units (st : BitVec 3) (val : Option Byte) (rx : Frame) (s : State) :
    (s.respond st val rx).units = s.units := rfl
@[simp] theorem respond_seq (st : BitVec 3) (val : Option Byte) (rx : Frame) (s : State) :
    (s.respond st val rx).seq = .idle := rfl
@[simp] theorem respond_latched (st : BitVec 3) (val : Option Byte) (rx : Frame) (s : State) :
    (s.respond st val rx).latched = none := rfl
@[simp] theorem respond_resp (st : BitVec 3) (val : Option Byte) (rx : Frame) (s : State) :
    (s.respond st val rx).resp = Resp.of st val rx s.draws := rfl
@[simp] theorem respond_transport (st : BitVec 3) (val : Option Byte) (rx : Frame) (s : State) :
    (s.respond st val rx).transport = s.transport := rfl
@[simp] theorem respond_bus (st : BitVec 3) (val : Option Byte) (rx : Frame) (s : State) :
    (s.respond st val rx).bus = s.bus := rfl
@[simp] theorem respond_moves (st : BitVec 3) (val : Option Byte) (rx : Frame) (s : State) :
    (s.respond st val rx).moves = s.moves := rfl
@[simp] theorem respond_draws (st : BitVec 3) (val : Option Byte) (rx : Frame) (s : State) :
    (s.respond st val rx).draws = s.draws + 1 := rfl
@[simp] theorem respond_faults (st : BitVec 3) (val : Option Byte) (rx : Frame) (s : State) :
    (s.respond st val rx).faults = s.faults := rfl

/-! ### `State.accept` -/

@[simp] theorem accept_params (i : Instr) (s : State) : (s.accept i).params = s.params := rfl
@[simp] theorem accept_cfg (i : Instr) (s : State) : (s.accept i).cfg = s.cfg := rfl
@[simp] theorem accept_units (i : Instr) (s : State) : (s.accept i).units = s.units := rfl
@[simp] theorem accept_seq (i : Instr) (s : State) : (s.accept i).seq = .busy := rfl
@[simp] theorem accept_latched (i : Instr) (s : State) :
    (s.accept i).latched = some { request := i, cfg := s.cfg, answers := [] } := rfl
@[simp] theorem accept_resp (i : Instr) (s : State) : (s.accept i).resp = s.resp := rfl
@[simp] theorem accept_transport (i : Instr) (s : State) :
    (s.accept i).transport = s.transport := rfl
@[simp] theorem accept_bus (i : Instr) (s : State) : (s.accept i).bus = s.bus := rfl
@[simp] theorem accept_moves (i : Instr) (s : State) : (s.accept i).moves = s.moves := rfl
@[simp] theorem accept_draws (i : Instr) (s : State) : (s.accept i).draws = s.draws := rfl
@[simp] theorem accept_faults (i : Instr) (s : State) : (s.accept i).faults = s.faults := rfl

/-! ### `State.asked` -/

@[simp] theorem asked_params (s : State) : s.asked.params = s.params := rfl
@[simp] theorem asked_cfg (s : State) : s.asked.cfg = s.cfg := rfl
@[simp] theorem asked_units (s : State) : s.asked.units = s.units := rfl
@[simp] theorem asked_seq (s : State) : s.asked.seq = s.seq := rfl
@[simp] theorem asked_latched (s : State) : s.asked.latched = s.latched := rfl
@[simp] theorem asked_resp (s : State) : s.asked.resp = s.resp := rfl
@[simp] theorem asked_transport (s : State) : s.asked.transport = s.transport.asked := rfl
@[simp] theorem asked_bus (s : State) : s.asked.bus = s.bus := rfl
@[simp] theorem asked_moves (s : State) : s.asked.moves = s.moves := rfl
@[simp] theorem asked_draws (s : State) : s.asked.draws = s.draws := rfl
@[simp] theorem asked_faults (s : State) : s.asked.faults = s.faults := rfl

/-! ### `State.exchanged` -/

@[simp] theorem exchanged_params (tx : Frame) (a : Option Frame) (s : State) :
    (s.exchanged tx a).params = s.params := rfl
@[simp] theorem exchanged_cfg (tx : Frame) (a : Option Frame) (s : State) :
    (s.exchanged tx a).cfg = s.cfg := rfl
@[simp] theorem exchanged_units (tx : Frame) (a : Option Frame) (s : State) :
    (s.exchanged tx a).units = s.units := rfl
@[simp] theorem exchanged_seq (tx : Frame) (a : Option Frame) (s : State) :
    (s.exchanged tx a).seq = s.seq := rfl
@[simp] theorem exchanged_latched (tx : Frame) (a : Option Frame) (s : State) :
    (s.exchanged tx a).latched = s.latched.map fun l => l.note a := rfl
@[simp] theorem exchanged_resp (tx : Frame) (a : Option Frame) (s : State) :
    (s.exchanged tx a).resp = s.resp := rfl
@[simp] theorem exchanged_transport (tx : Frame) (a : Option Frame) (s : State) :
    (s.exchanged tx a).transport = s.transport.next := rfl
@[simp] theorem exchanged_bus (tx : Frame) (a : Option Frame) (s : State) :
    (s.exchanged tx a).bus = s.bus ++ [{ tx := tx, rx := a }] := rfl
@[simp] theorem exchanged_moves (tx : Frame) (a : Option Frame) (s : State) :
    (s.exchanged tx a).moves = s.moves := rfl
@[simp] theorem exchanged_draws (tx : Frame) (a : Option Frame) (s : State) :
    (s.exchanged tx a).draws = s.draws := rfl
@[simp] theorem exchanged_faults (tx : Frame) (a : Option Frame) (s : State) :
    (s.exchanged tx a).faults = s.faults := rfl

/-! ### `State.resetBlock` -/

@[simp] theorem resetBlock_params (s : State) : s.resetBlock.params = s.params := rfl
@[simp] theorem resetBlock_cfg (s : State) : s.resetBlock.cfg = s.params.init := rfl
@[simp] theorem resetBlock_units (s : State) : s.resetBlock.units = convUnits s.params.init := rfl
@[simp] theorem resetBlock_seq (s : State) : s.resetBlock.seq = .idle := rfl
@[simp] theorem resetBlock_latched (s : State) : s.resetBlock.latched = none := rfl
@[simp] theorem resetBlock_resp (s : State) : s.resetBlock.resp = Resp.cleared := rfl
@[simp] theorem resetBlock_transport (s : State) : s.resetBlock.transport = s.transport := rfl
@[simp] theorem resetBlock_bus (s : State) : s.resetBlock.bus = s.bus := rfl
@[simp] theorem resetBlock_moves (s : State) : s.resetBlock.moves = s.moves := rfl
@[simp] theorem resetBlock_draws (s : State) : s.resetBlock.draws = s.draws := rfl
@[simp] theorem resetBlock_faults (s : State) : s.resetBlock.faults = s.faults := rfl

/-! ### `State.setCfg` -/

@[simp] theorem setCfg_params (c : Cfg) (s : State) : (s.setCfg c).params = s.params := rfl
@[simp] theorem setCfg_cfg (c : Cfg) (s : State) : (s.setCfg c).cfg = c := rfl
@[simp] theorem setCfg_units (c : Cfg) (s : State) : (s.setCfg c).units = convUnits c := rfl
@[simp] theorem setCfg_seq (c : Cfg) (s : State) : (s.setCfg c).seq = s.seq := rfl
@[simp] theorem setCfg_latched (c : Cfg) (s : State) : (s.setCfg c).latched = s.latched := rfl
@[simp] theorem setCfg_resp (c : Cfg) (s : State) : (s.setCfg c).resp = s.resp := rfl
@[simp] theorem setCfg_transport (c : Cfg) (s : State) : (s.setCfg c).transport = s.transport := rfl
@[simp] theorem setCfg_bus (c : Cfg) (s : State) : (s.setCfg c).bus = s.bus := rfl
@[simp] theorem setCfg_moves (c : Cfg) (s : State) : (s.setCfg c).moves = s.moves := rfl
@[simp] theorem setCfg_draws (c : Cfg) (s : State) : (s.setCfg c).draws = s.draws := rfl
@[simp] theorem setCfg_faults (c : Cfg) (s : State) : (s.setCfg c).faults = s.faults := rfl

/-! ### `State.takeMove` -/

@[simp] theorem takeMove_params (s : State) : s.takeMove.params = s.params := rfl
@[simp] theorem takeMove_cfg (s : State) : s.takeMove.cfg = s.cfg := rfl
@[simp] theorem takeMove_units (s : State) : s.takeMove.units = s.units := rfl
@[simp] theorem takeMove_seq (s : State) : s.takeMove.seq = s.seq := rfl
@[simp] theorem takeMove_latched (s : State) : s.takeMove.latched = s.latched := rfl
@[simp] theorem takeMove_resp (s : State) : s.takeMove.resp = s.resp := rfl
@[simp] theorem takeMove_transport (s : State) : s.takeMove.transport = s.transport := rfl
@[simp] theorem takeMove_bus (s : State) : s.takeMove.bus = s.bus := rfl
@[simp] theorem takeMove_moves (s : State) : s.takeMove.moves = s.moves.tail := rfl
@[simp] theorem takeMove_draws (s : State) : s.takeMove.draws = s.draws := rfl
@[simp] theorem takeMove_faults (s : State) : s.takeMove.faults = s.faults := rfl

/-! ### `State.readMove` -/

@[simp] theorem readMove_params (o : Output) (s : State) : (s.readMove o).params = s.params := rfl
@[simp] theorem readMove_cfg (o : Output) (s : State) : (s.readMove o).cfg = s.cfg := rfl
@[simp] theorem readMove_units (o : Output) (s : State) : (s.readMove o).units = s.units := rfl
@[simp] theorem readMove_seq (o : Output) (s : State) : (s.readMove o).seq = s.seq := rfl
@[simp] theorem readMove_latched (o : Output) (s : State) :
    (s.readMove o).latched = s.latched := rfl
@[simp] theorem readMove_resp (o : Output) (s : State) : (s.readMove o).resp = s.resp := rfl
@[simp] theorem readMove_transport (o : Output) (s : State) :
    (s.readMove o).transport = s.transport := rfl
@[simp] theorem readMove_bus (o : Output) (s : State) : (s.readMove o).bus = s.bus := rfl
@[simp] theorem readMove_moves (o : Output) (s : State) : (s.readMove o).moves = s.moves := rfl
@[simp] theorem readMove_draws (o : Output) (s : State) : (s.readMove o).draws = s.draws := rfl
@[simp] theorem readMove_faults (o : Output) (s : State) :
    (s.readMove o).faults = s.faults ++ (s.readFault o).toList := rfl

/-- A read without a fault leaves the state as it is. -/
theorem readMove_of_none {o : Output} {s : State} (h : s.readFault o = none) :
    s.readMove o = s := by simp [State.readMove, h]

@[simp] theorem takeMove_readFault (o : Output) (s : State) :
    s.takeMove.readFault o = s.readFault o := by cases o <;> rfl

/-! ### `State.responded` -/

section Responded

variable (es : List Exchange) (st : BitVec 3) (val : Option Byte) (rx : Frame) (s : State)

@[simp] theorem responded_params :
    (s.responded es st val rx).params = s.params := rfl
@[simp] theorem responded_cfg :
    (s.responded es st val rx).cfg = s.cfg := rfl
@[simp] theorem responded_units :
    (s.responded es st val rx).units = s.units := rfl
@[simp] theorem responded_seq :
    (s.responded es st val rx).seq = .idle := rfl
@[simp] theorem responded_latched :
    (s.responded es st val rx).latched = none := rfl
@[simp] theorem responded_resp :
    (s.responded es st val rx).resp = Resp.of st val rx s.draws := rfl
@[simp] theorem responded_transport :
    (s.responded es st val rx).transport = s.transport.skip es.length := rfl
@[simp] theorem responded_bus :
    (s.responded es st val rx).bus = s.bus ++ es := rfl
@[simp] theorem responded_moves :
    (s.responded es st val rx).moves = s.moves := rfl
@[simp] theorem responded_draws :
    (s.responded es st val rx).draws = s.draws + 1 := rfl
@[simp] theorem responded_faults :
    (s.responded es st val rx).faults = s.faults := rfl

end Responded

/-! ### The response registers and the refusal -/

@[simp] theorem Resp.of_status (st : BitVec 3) (val : Option Byte) (rx : Frame) (n : Nat) :
    (Resp.of st val rx n).status = st := rfl
@[simp] theorem Resp.of_valueValid (st : BitVec 3) (val : Option Byte) (rx : Frame) (n : Nat) :
    (Resp.of st val rx n).valueValid = val.isSome := rfl
@[simp] theorem Resp.of_value_some (st : BitVec 3) (v : Byte) (rx : Frame) (n : Nat) :
    (Resp.of st (some v) rx n).value = v := rfl
@[simp] theorem Resp.of_value_none (st : BitVec 3) (rx : Frame) (n : Nat) :
    (Resp.of st none rx n).value = Config.undefinedValue n := rfl
@[simp] theorem Resp.of_rx (st : BitVec 3) (val : Option Byte) (rx : Frame) (n : Nat) :
    (Resp.of st val rx n).rx = rx := rfl
@[simp] theorem Resp.of_written (st : BitVec 3) (val : Option Byte) (rx : Frame) (n : Nat) :
    (Resp.of st val rx n).written = true := rfl

@[simp] theorem refuse_eq (s : State) : s.refuse = s.respond illegal none [] := rfl

end Sys2Proof.Machine
end

