-- ==== Sys2Proof/Laws/Ops.lean ====
section
/-! SUPPORT. What the shared operations do, each said once: the transport's answers, the running of
a plan, and the serving of a request. -/

namespace Sys2Proof.Machine

/-! ### The transport -/

@[simp] theorem receivedBytes_length (call n : Nat) (b : Frame) :
    (receivedBytes call n b).length = n := by simp [receivedBytes]

/-- Bytes in store that fill the frame are received as they are. -/
theorem receivedBytes_of_length (call : Nat) (b : Frame) : receivedBytes call b.length b = b := by
  refine List.ext_getElem (by simp) fun i h₁ h₂ => ?_
  simp [receivedBytes, List.getElem?_eq_getElem h₂]

/-- A received frame is as long as the frame sent, R14. -/
theorem Transport.answer_length {t : Transport} {n : Nat} {rx : Frame}
    (h : t.answer n = .answered (some rx)) : rx.length = n := by
  unfold Transport.answer at h
  split at h
  · split at h
    · rw [Answer.answered.injEq, Option.some.injEq] at h
      simp [← h]
    · simp at h
  · rw [Answer.answered.injEq, Option.some.injEq] at h
    simp [← h]
  · simp at h
  · simp at h
  · simp at h

theorem Transport.skip_succ (n : Nat) (t : Transport) : t.next.skip n = t.skip (n + 1) := by
  simp [Transport.next, Transport.skip, Nat.add_assoc, Nat.add_comm 1 n]

@[simp] theorem Transport.skip_zero (t : Transport) : t.skip 0 = t := rfl

theorem Transport.skip_one (t : Transport) : t.skip 1 = t.next := by
  simp [Transport.next, Transport.skip]

/-- An exchange that is not answered yet is asked again with the next answer. -/
theorem Transport.asked_wait {t : Transport} (h : t.script.head? = some .wait) :
    t.asked = t.skip 1 := by
  obtain ⟨rs, hs⟩ := List.head?_eq_some_iff.1 h
  simp [Transport.asked, Transport.skip_one, hs]

/-- An exchange that never completes leaves the transport as it is. -/
theorem Transport.asked_never {t : Transport} (h : t.script.head? = some .never) :
    t.asked = t := by
  obtain ⟨rs, hs⟩ := List.head?_eq_some_iff.1 h
  simp [Transport.asked, hs]

theorem Transport.answer_wait {t : Transport} (h : t.script.head? = some .wait) (n : Nat) :
    t.answer n = .waiting := by
  obtain ⟨rs, hs⟩ := List.head?_eq_some_iff.1 h
  simp [Transport.answer, hs]

theorem Transport.answer_never {t : Transport} (h : t.script.head? = some .never) (n : Nat) :
    t.answer n = .waiting := by
  obtain ⟨rs, hs⟩ := List.head?_eq_some_iff.1 h
  simp [Transport.answer, hs]

/-- When every exchange answers, this one does. -/
theorem Transport.Answers.answered {t : Transport} (h : t.Answers) (n : Nat) :
    ∃ a, t.answer n = .answered a := by
  cases hs : t.script with
  | nil => exact ⟨_, by simp [Transport.answer, hs]; rfl⟩
  | cons r rs =>
    cases r with
    | bytes b => exact ⟨_, by simp [Transport.answer, hs]; rfl⟩
    | failure => exact ⟨_, by simp [Transport.answer, hs]; rfl⟩
    | wait => exact absurd rfl (h .wait (by simp [hs])).1
    | never => exact absurd rfl (h .never (by simp [hs])).2

theorem Transport.Answers.next {t : Transport} (h : t.Answers) : t.next.Answers :=
  fun r hr => h r (List.mem_of_mem_tail hr)

/-! ### Running a plan -/

/-- The exchanges a plan performs with these answers. -/
def Plan.performed : Plan → List (Option Frame) → List Exchange
  | .done _ _ _, _ => []
  | .exchange _ _, [] => []
  | .exchange tx rest, a :: as => { tx := tx, rx := a } :: (rest a).performed as

/-- The answers fit the plan: one for each exchange performed, each as long as its frame. -/
def Plan.fits : Plan → List (Option Frame) → Prop
  | _, [] => True
  | .done _ _ _, _ :: _ => False
  | .exchange tx rest, a :: as => (∀ rx, a = some rx → rx.length = tx.length) ∧ (rest a).fits as

theorem advance_done (st : BitVec 3) (val : Option Byte) (rx : Frame) (s : State) :
    advance (.done st val rx) s = s.respond st val rx := rfl

theorem advance_waiting {tx : Frame} {rest : Option Frame → Plan} {s : State}
    (h : s.transport.answer tx.length = .waiting) :
    advance (.exchange tx rest) s = s.asked := by simp [advance, h]

theorem advance_answered {tx : Frame} {rest : Option Frame → Plan} {s : State} {a : Option Frame}
    (h : s.transport.answer tx.length = .answered a) :
    advance (.exchange tx rest) s = advance (rest a) (s.exchanged tx a) := by simp [advance, h]

/-- The state in which a plan waits after some answers. -/
def State.waiting (es : List Exchange) (as : List (Option Frame)) (s : State) : State :=
  { s with
    transport := (s.transport.skip as.length).asked
    bus := s.bus ++ es
    latched := s.latched.map fun l => { l with answers := l.answers ++ as } }

/-- Everything running a plan can do: it responds, or it waits at an exchange; the exchanges it
performed are those of the plan, and nothing else changes. -/
theorem advance_cases (p : Plan) (s : State) :
    ∃ as, p.fits as ∧
      ((∃ st val rx, p.after as = .done st val rx ∧
          (p.performed as).length = as.length ∧
          advance p s = s.responded (p.performed as) st val rx) ∨
        (∃ tx rest, p.after as = .exchange tx rest ∧
          advance p s = s.waiting (p.performed as) as)) := by
  induction p generalizing s with
  | done st val rx =>
    exact ⟨[], trivial, .inl ⟨st, val, rx, rfl, rfl, by
      simp [advance, State.respond, State.responded, Plan.performed, Resp.of]⟩⟩
  | exchange tx rest ih =>
    cases h : s.transport.answer tx.length with
    | waiting =>
      refine ⟨[], trivial, .inr ⟨tx, rest, rfl, ?_⟩⟩
      cases hl : s.latched <;>
        simp [advance_waiting h, State.asked, State.waiting, Plan.performed, hl]
    | answered a =>
      obtain ⟨as, hf, hc⟩ := ih a (s.exchanged tx a)
      have hfit : Plan.fits (.exchange tx rest) (a :: as) :=
        ⟨fun rx hrx => Transport.answer_length (hrx ▸ h), hf⟩
      refine ⟨a :: as, hfit, ?_⟩
      obtain ⟨st, val, rx, hd, hn, ht⟩ | ⟨tx', rest', hd, ht⟩ := hc
      · refine .inl ⟨st, val, rx, hd, by simp [Plan.performed, hn], ?_⟩
        rw [advance_answered h, ht]
        simp [State.responded, State.exchanged, Plan.performed, Transport.skip_succ]
      · refine .inr ⟨tx', rest', hd, ?_⟩
        rw [advance_answered h, ht]
        cases hl : s.latched <;>
          simp [State.waiting, State.exchanged, Plan.performed, Transport.skip_succ,
            Latch.note, hl]

/-! ### Serving a request -/

theorem serve_idle {i : Instr} {body : Cfg → State → State} {s : State} (h : s.seq = .idle) :
    serve i body s = .next (body s.cfg (s.accept i)) := by simp [serve, h]

/-- A request offered to a busy block is not accepted, R25. -/
theorem serve_busy {i : Instr} {body : Cfg → State → State} {s : State} (h : s.seq = .busy) :
    serve i body s = .next s := by simp [serve, h]

/-- A response given at once, without an exchange, leaves the state of `State.responded`. -/
theorem accept_respond (i : Instr) (st : BitVec 3) (val : Option Byte) (rx : Frame) (s : State) :
    (s.accept i).respond st val rx = s.responded [] st val rx := by
  simp [State.accept, State.respond, State.responded, Resp.of]

/-- A response does not depend on what was latched or on the phase of the sequencer. -/
theorem responded_accept (i : Instr) (es : List Exchange) (st : BitVec 3) (val : Option Byte)
    (rx : Frame) (s : State) :
    (s.accept i).responded es st val rx = s.responded es st val rx := rfl

end Sys2Proof.Machine
end

