-- ==== Sys2Proof/Laws/Exec.lean ====
section
/-! SUPPORT. What `exec` answers by the phase of the sequencer, and what running a plan leaves
alone. -/

namespace Sys2Proof.Machine

/-- No request is accepted while BUSY, R25 and R153. -/
theorem exec_busy (i : Instr) {s : State} (h : s.seq = .busy) : exec i s = .next s := by
  cases i <;>
    simp only [exec, execCrc8, execXor8, execCfgWrite, execCfgRead, execGeomRead, execReadReg,
      execWriteReg, execReadMasked, execWriteMasked, execReadConv, serve_busy h]

/-- A request that performs exchanges runs its plan from the accepted state. -/
theorem exec_plan {i : Instr} {s : State} {p : Plan} (h : s.seq = .idle)
    (hp : requestPlan s.params s.cfg i = some p) : exec i s = .next (advance p (s.accept i)) := by
  cases i <;> simp only [requestPlan, Option.some.injEq, reduceCtorEq] at hp <;> subst hp <;>
    simp only [exec, execReadReg, execWriteReg, execReadMasked, execWriteMasked, execReadConv,
      serve_idle h, accept_params]

/-- Running a plan leaves the parameters, `CFG`, `UNITS` and the requester's moves alone. -/
theorem advance_frame (p : Plan) (s : State) :
    (advance p s).params = s.params ∧ (advance p s).cfg = s.cfg ∧
      (advance p s).units = s.units ∧ (advance p s).moves = s.moves := by
  obtain ⟨as, -, ⟨_, _, _, -, -, h⟩ | ⟨_, _, -, h⟩⟩ := advance_cases p s <;>
    rw [h] <;> exact ⟨rfl, rfl, rfl, rfl⟩

/-- Running a plan records no fault. -/
theorem advance_faults (p : Plan) (s : State) : (advance p s).faults = s.faults := by
  obtain ⟨as, -, ⟨_, _, _, -, -, h⟩ | ⟨_, _, -, h⟩⟩ := advance_cases p s <;> rw [h] <;> rfl

/-- Running a plan does not depend on the requester's moves. -/
theorem advance_moves (p : Plan) (s : State) (ms : List Move) :
    advance p { s with moves := ms } = { advance p s with moves := ms } := by
  induction p generalizing s with
  | done => rfl
  | exchange tx rest ih =>
    cases h : s.transport.answer tx.length with
    | waiting => rw [advance_waiting h, advance_waiting (s := { s with moves := ms }) h]; rfl
    | answered a =>
      rw [advance_answered h, advance_answered (s := { s with moves := ms }) h, ← ih]; rfl

end Sys2Proof.Machine
end

