-- ==== Sys2Proof/Laws/PerInstr.lean ====
section
/-! SUPPORT. The statements about requests as syntax, one lemma per constructor. -/

namespace Sys2Proof.Laws.EncodedOpcode

/-- The word of a request carries its opcode in `OP` and 0 in `RSV` (`30_encoding.md` R54, R57). -/
def Statement (i : Instr) : Prop :=
  opField (encodeWord i) = opcodeOf i ∧ rsvField (encodeWord i) = 0

theorem opField_packWord (v m a : Byte) (op : BitVec 4) : opField (packWord v m a op) = op := by
  refine BitVec.eq_of_getLsbD_eq fun i hi => ?_
  have h₁ : i < 8 := by omega
  have h₂ : i < 16 := by omega
  have h₃ : i < 24 := by omega
  have h₄ : i < 32 := by omega
  simp [opField, packWord, hi, h₁, h₂, h₃, h₄]

theorem rsvField_packWord (v m a : Byte) (op : BitVec 4) : rsvField (packWord v m a op) = 0 := by
  refine BitVec.eq_of_getLsbD_eq fun i hi => ?_
  have h₁ : 4 + i < 8 := by omega
  have h₂ : 4 + i < 16 := by omega
  have h₃ : 4 + i < 24 := by omega
  have h₄ : 4 + i < 32 := by omega
  simp [rsvField, packWord, h₁, h₂, h₃, h₄]

theorem crc8 (seed : Byte) (data : Frame) : Statement (.crc8 seed data) :=
  ⟨opField_packWord .., rsvField_packWord ..⟩

theorem xor8 (seed : Byte) (data : Frame) : Statement (.xor8 seed data) :=
  ⟨opField_packWord .., rsvField_packWord ..⟩

theorem cfgWrite (cfg : Cfg) : Statement (.cfgWrite cfg) :=
  ⟨opField_packWord .., rsvField_packWord ..⟩

theorem cfgRead : Statement .cfgRead := ⟨opField_packWord .., rsvField_packWord ..⟩

theorem geomRead : Statement .geomRead := ⟨opField_packWord .., rsvField_packWord ..⟩

theorem readReg (a : Byte) : Statement (.readReg a) :=
  ⟨opField_packWord .., rsvField_packWord ..⟩

theorem writeReg (a v : Byte) : Statement (.writeReg a v) :=
  ⟨opField_packWord .., rsvField_packWord ..⟩

theorem readMasked (a m : Byte) : Statement (.readMasked a m) :=
  ⟨opField_packWord .., rsvField_packWord ..⟩

theorem writeMasked (a m v : Byte) : Statement (.writeMasked a m v) :=
  ⟨opField_packWord .., rsvField_packWord ..⟩

theorem readConv : Statement .readConv := ⟨opField_packWord .., rsvField_packWord ..⟩

end Sys2Proof.Laws.EncodedOpcode
end

