-- ==== Sys2Proof/Laws/Step.lean ====
section
/-! SUPPORT. Everything one step can do, said once. -/

namespace Sys2Proof.Machine

/-- Taking the requester's move does not change how the block goes on. -/
theorem takeMove_proceed (s : State) : s.takeMove.proceed = s.proceed.takeMove := by
  cases hs : s.seq with
  | idle => simp only [State.proceed, takeMove_seq, hs]
  | busy =>
    cases hl : s.latched with
    | none => simp only [State.proceed, State.resume, takeMove_seq, takeMove_latched, hs, hl]
    | some l =>
      cases hp : requestPlan s.params l.cfg l.request with
      | none =>
        simp only [State.proceed, State.resume, takeMove_seq, takeMove_latched, takeMove_params,
          hs, hl, hp]
      | some p =>
        simp only [State.proceed, State.resume, takeMove_seq, takeMove_latched, takeMove_params,
          hs, hl, hp]
        simp only [State.takeMove, advance_moves, (advance_frame (p.after l.answers) s).2.2.2]

/-- The block left to itself leaves the requester's moves alone. -/
@[simp] theorem proceed_moves (s : State) : s.proceed.moves = s.moves := by
  unfold State.proceed State.resume
  split
  · rfl
  · split
    · rfl
    · split
      · rfl
      · exact (advance_frame _ _).2.2.2

/-- The block left to itself records no fault. -/
@[simp] theorem proceed_faults (s : State) : s.proceed.faults = s.faults := by
  unfold State.proceed State.resume
  split
  · rfl
  · split
    · rfl
    · split
      · rfl
      · exact advance_faults _ _

/-- The cases of a step that answers a next state: the block goes on by itself, with or without a
move taken; or a reset, a read, a request that runs, or one that is refused. -/
theorem step_cases {s t : State} (h : step s = .next t) :
    t = s.proceed ∧
        (s.moves = [] ∨ s.seq = .busy ∧ ∃ w d ms, s.moves = .request w d :: ms) ∨
      t = s.proceed.takeMove ∧ (∃ ms, s.moves = .pass :: ms) ∨
      t = s.takeMove.resetBlock ∧ (∃ ms, s.moves = .reset :: ms) ∨
      (∃ o ms, s.moves = .read o :: ms ∧ t = s.takeMove.readMove o) ∨
      ∃ w d ms, s.seq = .idle ∧ s.moves = .request w d :: ms ∧
        ((∃ i, decode w d = .ok i ∧ exec i s.takeMove = .next t) ∨
          ∃ e, decode w d = .error e ∧ t = s.takeMove.refuse) := by
  unfold step at h
  split at h
  next hm => exact .inl ⟨by cases h; rfl, .inl hm⟩
  next hm => exact .inr (.inr (.inl ⟨by cases h; rfl, _, hm⟩))
  next o ms hm => exact .inr (.inr (.inr (.inl ⟨o, ms, hm, by cases h; rfl⟩)))
  next hm => exact .inr (.inl ⟨by cases h; exact takeMove_proceed s, _, hm⟩)
  next w d ms hm =>
    split at h
    next hs => exact .inl ⟨by cases h; rfl, .inr ⟨hs, w, d, ms, hm⟩⟩
    next hs =>
      refine .inr (.inr (.inr (.inr ⟨w, d, ms, hs, hm, ?_⟩)))
      split at h
      next i hd => exact .inl ⟨i, hd, h⟩
      next e hd => exact .inr ⟨e, hd, by cases h; rfl⟩

end Sys2Proof.Machine
end

