-- ==== Sys2Proof/Tests/Slice0.lean ====
section
/-! SUPPORT. Small tests of the model, and witnesses that the hypotheses of the statements can be
met. Expected values are from `95_test_vectors.md`, with the vector's name in the docstring; the
words are written out from `30_encoding.md` R54 to R58. -/

namespace Sys2Proof.Tests

open Sys2Proof.Machine Sys2Proof.Claims

set_option maxRecDepth 8000

/-! ### Helpers -/

def cfgNone : Cfg := ⟨.none, .w16, false⟩
def cfgXor : Cfg := ⟨.xor, .w16, false⟩
def cfgCrc : Cfg := ⟨.crc8, .w16, false⟩
def cfgLong : Cfg := ⟨.crc8, .w24, true⟩

/-- An idle block with `CRC8_POLY` 0x07 and `ADC_DATA_ADDR` 0x2C, and these answers in store. -/
def block (cfg : Cfg) (script : List Reply) : State :=
  { params := { crc8Poly := 0x07#8, adcDataAddr := 0x2C#6, init := cfgNone }
    cfg := cfg
    units := convUnits cfg
    seq := .idle
    latched := none
    resp := Resp.cleared
    transport := { script := script, calls := 0 }
    bus := []
    moves := []
    draws := 0
    faults := [] }

/-- The state with a request offered. -/
def offer (w : Word) (d : Frame) (s : State) : State := { s with moves := [.request w d] }

/-- A state in which the request waits at an exchange, with these answers so far. -/
def waitingAt (i : Instr) (answers : List (Option Frame)) (s : State) : State :=
  { s with seq := .busy, latched := some { request := i, cfg := s.cfg, answers := answers } }

def after : Host.Outcome State Fault Refusal → Option State
  | .next s => some s
  | .fault f => nomatch f
  | .refused _ => none

/-- A response `(st, val, rx)`, where `val` is `none` when `RESP.value_valid` = 0. -/
structure Seen where
  st : BitVec 3
  val : Option Byte
  rx : Frame
deriving DecidableEq, Repr

def seen (r : Resp) : Seen :=
  { st := r.status, val := if r.valueValid then some r.value else none, rx := r.rx }

/-- The response of a step, where one was written. -/
def response (o : Host.Outcome State Fault Refusal) : Option Seen :=
  (after o).bind fun s => if s.resp.written then some (seen s.resp) else none

/-- The response `(st, val, rx)`. -/
def gives (st : BitVec 3) (val : Option Byte) (rx : Frame) : Option Seen := some ⟨st, val, rx⟩

/-- The frames sent. -/
def sent (o : Host.Outcome State Fault Refusal) : Option (List Frame) :=
  (after o).map fun s => s.bus.map fun e => e.tx

/-- What a request offered to the block responds. -/
def ask (w : Word) (d : Frame) (s : State) := response (step (offer w d s))

def decoded (w : Word) (d : Frame) : Option Instr := (decode w d).toOption

def refusedFor (w : Word) (d : Frame) : Option DecodeError :=
  match decode w d with
  | .ok _ => none
  | .error e => some e

/-- `respond(ILLEGAL, invalid, [])`. -/
def illegalResponse : Option Seen := gives 0b100#3 none []

/-! ### Well-formedness -/

theorem test_wellFormed_crc8_longest :
    (Instr.crc8 0x00#8 (List.replicate 255 0x00#8)).wellFormed = true := by decide

theorem test_illFormed_crc8_length :
    (Instr.crc8 0x00#8 (List.replicate 256 0x00#8)).wellFormed = false := by decide

theorem test_wellFormed_xor8_longest :
    (Instr.xor8 0x00#8 [0x01#8, 0x02#8, 0x03#8]).wellFormed = true := by decide

theorem test_illFormed_xor8_length :
    (Instr.xor8 0x00#8 [0x01#8, 0x02#8, 0x03#8, 0x04#8]).wellFormed = false := by decide

/-! ### Decoding

Each word is written field by field, `V`, `M`, `A`, `RSV`, `OP`, most significant bit first. -/

theorem test_decode_crc8 :
    decoded 0b01011010_00000000_00000010_0000_0001#32 [0x31#8, 0x32#8] =
      some (.crc8 0x5A#8 [0x31#8, 0x32#8]) := by decide

theorem test_decode_xor8 :
    decoded 0b01101100_00000000_00000011_0000_0010#32 [0x12#8, 0x34#8, 0x56#8] =
      some (.xor8 0x6C#8 [0x12#8, 0x34#8, 0x56#8]) := by decide

/-- `V` = `{0000, SB, SW, CM}`: SB 1, SW 1, CM 10. -/
theorem test_decode_cfgWrite :
    decoded 0b00001110_00000000_00000000_0000_0011#32 [] =
      some (.cfgWrite ⟨.crc8, .w24, true⟩) := by decide

/-- SB 0, SW 1, CM 01 (V-CFG-2). -/
theorem test_decode_cfgWrite_xor :
    decoded 0b00000101_00000000_00000000_0000_0011#32 [] =
      some (.cfgWrite ⟨.xor, .w24, false⟩) := by decide

theorem test_decode_cfgRead :
    decoded 0b00000000_00000000_00000000_0000_0100#32 [] = some .cfgRead := by decide

theorem test_decode_geomRead :
    decoded 0b00000000_00000000_00000000_0000_0101#32 [] = some .geomRead := by decide

/-- `A[7:6]` is kept by the decoder and ignored by the request (V-RR-4). -/
theorem test_decode_readReg :
    decoded 0b00000000_00000000_01010101_0000_0110#32 [] = some (.readReg 0x55#8) := by decide

theorem test_decode_writeReg :
    decoded 0b00101111_00000000_00010101_0000_0111#32 [] =
      some (.writeReg 0x15#8 0x2F#8) := by decide

theorem test_decode_readMasked :
    decoded 0b00000000_00110000_00010101_0000_1000#32 [] =
      some (.readMasked 0x15#8 0x30#8) := by decide

theorem test_decode_writeMasked :
    decoded 0b01000000_00110000_00010101_0000_1001#32 [] =
      some (.writeMasked 0x15#8 0x30#8 0x40#8) := by decide

theorem test_decode_readConv :
    decoded 0b00000000_00000000_00000000_0000_1010#32 [] = some .readConv := by decide

theorem test_decodeTableWord_crc8 :
    decodeTableWord 32 0x5A000201 = some (.crc8 0x5A#8 [0x00#8, 0x00#8]) := by decide

/-! ### Refused words -/

/-- V-ILL-1 to V-ILL-4. -/
theorem test_reserved_opcodes :
    refusedFor 0x00000000#32 [] = some .reservedOpcode ∧
    refusedFor 0x0000000B#32 [] = some .reservedOpcode ∧
    refusedFor 0x0000000F#32 [] = some .reservedOpcode ∧
    refusedFor 0xFFFFFFFF#32 [] = some .reservedOpcode := by decide

/-- V-ILL-6 to V-ILL-8, V-CFG-5 to V-CFG-8, V-RR-12, V-RR-13, V-XOR-11. -/
theorem test_reserved_fields :
    refusedFor 0x00010201#32 [0x01#8, 0x02#8] = some .nonzeroReservedField ∧
    refusedFor 0x00000211#32 [0x01#8, 0x02#8] = some .nonzeroReservedField ∧
    refusedFor 0x00010202#32 [0x01#8, 0x02#8] = some .nonzeroReservedField ∧
    refusedFor 0x1E000003#32 [] = some .nonzeroReservedField ∧
    refusedFor 0x0E000103#32 [] = some .nonzeroReservedField ∧
    refusedFor 0x0E010003#32 [] = some .nonzeroReservedField ∧
    refusedFor 0x01000005#32 [] = some .nonzeroReservedField ∧
    refusedFor 0x00001516#32 [] = some .nonzeroReservedField ∧
    refusedFor 0x01001506#32 [] = some .nonzeroReservedField := by decide

/-- V-WR-8, V-RM-8, V-WM-12, V-RC-18. -/
theorem test_reserved_fields_of_the_register_requests :
    refusedFor 0x2F011507#32 [] = some .nonzeroReservedField ∧
    refusedFor 0x01301508#32 [] = some .nonzeroReservedField ∧
    refusedFor 0x20301519#32 [] = some .nonzeroReservedField ∧
    refusedFor 0x0000001A#32 [] = some .nonzeroReservedField := by decide

/-- V-ILL-5, V-ILL-9, V-XOR-10, V-WR-9, V-RC-19. -/
theorem test_data_lengths :
    refusedFor 0x00000201#32 [0x01#8] = some .wrongDataLength ∧
    refusedFor 0x00000004#32 [0x00#8] = some .wrongDataLength ∧
    refusedFor 0x00000302#32 [0x01#8, 0x02#8] = some .wrongDataLength ∧
    refusedFor 0x2F001507#32 [0x01#8] = some .wrongDataLength ∧
    refusedFor 0x0000000A#32 [0x05#8] = some .wrongDataLength := by decide

/-- V-XOR-9 and V-CFG-4. -/
theorem test_xor_length_and_reserved_mode :
    refusedFor 0x00000402#32 [0x01#8, 0x02#8, 0x03#8, 0x04#8] = some .xorLengthAbove3 ∧
    refusedFor 0x0F000003#32 [] = some .reservedChecksumMode := by decide

/-- P1, request 6: refused, and only the response registers change. -/
theorem test_step_refused :
    (after (step (offer 0x0F000003#32 [] (block cfgLong [])))).map
        (fun s => (seen s.resp, { s with resp := Resp.cleared })) =
      some (⟨0b100#3, none, []⟩, { block cfgLong [] with draws := 1 }) := by decide

/-! ### The checksum functions, `CRC8_POLY` = 0x07 -/

/-- V-CRC-1, V-CRC-3, V-CRC-7, V-CRC-8, V-CRC-9, V-CRC-14. -/
theorem test_crc8_vectors :
    crc8 0x07#8 [0x02#8, 0x00#8] 2 0x00#8 = 0x2A#8 ∧
    crc8 0x07#8 [] 0 0x5A#8 = 0x5A#8 ∧
    crc8 0x07#8 [0xFF#8] 1 0x00#8 = 0xF3#8 ∧
    crc8 0x07#8 [0x00#8] 1 0xFF#8 = 0xF3#8 ∧
    crc8 0x07#8 [0x31#8, 0x32#8, 0x33#8, 0x34#8, 0x35#8, 0x36#8, 0x37#8, 0x38#8, 0x39#8] 9 0x00#8 =
      0xF4#8 ∧
    crc8 0x07#8 [0x02#8, 0x01#8] 2 0x00#8 = 0x2D#8 := by decide

/-- Other polynomials, section 2.1. -/
theorem test_crc8_polynomials :
    [0x31#8, 0x9B#8, 0x1D#8, 0x01#8, 0xFF#8].map
        (fun p => crc8 p [0x02#8, 0x00#8] 2 0x00#8) =
      [0xD9#8, 0x2C#8, 0x98#8, 0x02#8, 0xFF#8] := by decide

/-- V-XOR-1, V-XOR-2, V-XOR-7. -/
theorem test_xor8_vectors :
    xor8 [0x12#8, 0x34#8, 0x56#8] 3 0x6C#8 = 0x1C#8 ∧ xor8 [] 0 0xA5#8 = 0xA5#8 ∧
      xor8 [0x55#8, 0x0F#8] 2 0x00#8 = 0x5A#8 := by decide

/-! ### The requests, one step each -/

/-- V-CRC-1, and V-CRC-3 (`N` = 0). -/
theorem test_step_crc8 :
    ask 0x00000201#32 [0x02#8, 0x00#8] (block cfgNone []) = gives 0#3 (some 0x2A#8) [] ∧
    ask 0x5A000001#32 [] (block cfgLong []) = gives 0#3 (some 0x5A#8) [] := by decide

/-- V-XOR-1 and V-XOR-9. -/
theorem test_step_xor8 :
    ask 0x6C000302#32 [0x12#8, 0x34#8, 0x56#8] (block cfgNone []) =
      gives 0#3 (some 0x1C#8) [] ∧
    ask 0x00000402#32 [0x01#8, 0x02#8, 0x03#8, 0x04#8] (block cfgNone []) = illegalResponse := by
  decide

/-- V-CFG-1: `CFG`, `UNITS` and the response. -/
theorem test_step_cfgWrite :
    (after (step (offer 0x0E000003#32 [] (block cfgNone [])))).map
        (fun s => (s.cfg, s.units, seen s.resp)) =
      some (cfgLong, 3#2, ⟨0#3, none, []⟩) := by decide

/-- P1, request 5. -/
theorem test_step_cfgRead :
    ask 0x00000004#32 [] (block cfgLong []) = gives 0#3 (some 0x0E#8) [] := by decide

/-- V-GEO-1 and V-GEO-12. -/
theorem test_step_geomRead :
    ask 0x00000005#32 [] (block cfgNone []) = gives 0#3 (some 0x49#8) [] ∧
    ask 0x00000005#32 [] (block cfgLong []) = gives 0#3 (some 0x77#8) [] := by decide

/-- V-RR-1, V-RR-2, V-RR-8, V-RR-10, V-RR-11. -/
theorem test_step_readReg :
    ask 0x00001506#32 [] (block cfgCrc [.bytes [0x00#8, 0x0F#8, 0x60#8]]) =
      gives 0b000#3 (some 0x0F#8) [0x00#8, 0x0F#8, 0x60#8] ∧
    ask 0x00001506#32 [] (block cfgCrc [.bytes [0x00#8, 0x0F#8, 0x61#8]]) =
      gives 0b010#3 (some 0x0F#8) [0x00#8, 0x0F#8, 0x61#8] ∧
    ask 0x00001506#32 [] (block cfgXor [.bytes [0x00#8, 0x0F#8, 0x60#8]]) =
      gives 0b010#3 (some 0x0F#8) [0x00#8, 0x0F#8, 0x60#8] ∧
    ask 0x00001506#32 [] (block cfgNone [.bytes [0x12#8, 0x34#8]]) =
      gives 0b000#3 (some 0x34#8) [0x12#8, 0x34#8] ∧
    ask 0x00001506#32 [] (block cfgCrc [.failure]) = gives 0b001#3 none [] := by decide

/-- V-RR-4: the frame sent. -/
theorem test_step_readReg_frame :
    sent (step (offer 0x00005506#32 [] (block cfgCrc [.bytes [0x00#8, 0x0F#8, 0x60#8]]))) =
      some [[0x55#8, 0x00#8, 0x00#8]] := by decide

/-- V-WR-1, V-WR-2, V-WR-5: the frames sent. -/
theorem test_step_writeReg_frame :
    sent (step (offer 0x2F001507#32 [] (block cfgNone [.bytes [0x00#8, 0x00#8]]))) =
      some [[0x15#8, 0x2F#8]] ∧
    sent (step (offer 0x2F001507#32 [] (block cfgXor [.bytes [0x00#8, 0x00#8, 0x00#8]]))) =
      some [[0x15#8, 0x2F#8, 0xDB#8]] ∧
    sent (step (offer 0xFF003F07#32 [] (block cfgCrc [.bytes [0x01#8, 0x02#8, 0x03#8]]))) =
      some [[0x3F#8, 0xFF#8, 0xC9#8]] := by decide

/-- V-WR-5 and V-WR-4: the responses. -/
theorem test_step_writeReg :
    ask 0xFF003F07#32 [] (block cfgCrc [.bytes [0x01#8, 0x02#8, 0x03#8]]) =
      gives 0b000#3 none [] ∧
    ask 0x2F001507#32 [] (block cfgCrc [.failure]) = gives 0b001#3 none [] := by decide

/-- V-RM-1, V-RM-2, V-RM-6, V-RM-7. -/
theorem test_step_readMasked :
    ask 0x00301508#32 [] (block cfgCrc [.bytes [0x00#8, 0x2F#8, 0x80#8]]) =
      gives 0b000#3 (some 0x20#8) [0x00#8, 0x2F#8, 0x80#8] ∧
    ask 0x00301508#32 [] (block cfgCrc [.bytes [0x00#8, 0x2F#8, 0x81#8]]) =
      gives 0b010#3 (some 0x20#8) [0x00#8, 0x2F#8, 0x81#8] ∧
    ask 0x000F1508#32 [] (block cfgXor [.bytes [0x00#8, 0x2F#8, 0x7A#8]]) =
      gives 0b000#3 (some 0x0F#8) [0x00#8, 0x2F#8, 0x7A#8] ∧
    ask 0x00301508#32 [] (block cfgCrc [.failure]) = gives 0b001#3 none [] := by decide

/-- V-WM-2, V-WM-3, V-WM-5, V-WM-10: the responses. -/
theorem test_step_writeMasked :
    ask 0x20301509#32 []
        (block cfgCrc [.bytes [0x00#8, 0x0F#8, 0x61#8], .bytes [0x00#8, 0x00#8, 0x00#8]]) =
      gives 0b010#3 (some 0x2F#8) [0x00#8, 0x0F#8, 0x61#8] ∧
    ask 0x20301509#32 [] (block cfgCrc [.bytes [0x00#8, 0x0F#8, 0x61#8], .failure]) =
      gives 0b011#3 (some 0x2F#8) [0x00#8, 0x0F#8, 0x61#8] ∧
    ask 0x20301509#32 [] (block cfgCrc [.failure]) = gives 0b001#3 none [] ∧
    ask 0x40301509#32 []
        (block cfgCrc [.bytes [0x00#8, 0x0F#8, 0x60#8], .bytes [0x00#8, 0x00#8, 0x00#8]]) =
      gives 0b000#3 (some 0x4F#8) [0x00#8, 0x0F#8, 0x60#8] := by decide

/-- V-WM-7 and V-WM-5: the frames sent. -/
theorem test_step_writeMasked_frames :
    sent (step (offer 0x20301509#32 []
        (block cfgXor [.bytes [0x00#8, 0x0F#8, 0x5A#8], .bytes [0x00#8, 0x00#8, 0x00#8]]))) =
      some [[0x55#8, 0x00#8, 0x00#8], [0x15#8, 0x2F#8, 0xDB#8]] ∧
    sent (step (offer 0x20301509#32 [] (block cfgCrc [.failure]))) =
      some [[0x55#8, 0x00#8, 0x00#8]] := by decide

/-- V-RC-1, V-RC-3, V-RC-5, V-RC-14, V-RC-16, V-RC-17. -/
theorem test_step_readConv :
    ask 0x0000000A#32 [] (block cfgNone [.bytes [0x00#8, 0x12#8, 0x34#8]]) =
      gives 0b000#3 none [0x00#8, 0x12#8, 0x34#8] ∧
    ask 0x0000000A#32 [] (block cfgXor [.bytes [0x00#8, 0x12#8, 0x34#8, 0x56#8]]) =
      gives 0b000#3 none [0x00#8, 0x12#8, 0x34#8, 0x56#8] ∧
    ask 0x0000000A#32 [] (block cfgCrc [.bytes [0x00#8, 0x12#8, 0x34#8, 0x56#8]]) =
      gives 0b010#3 none [0x00#8, 0x12#8, 0x34#8, 0x56#8] ∧
    ask 0x0000000A#32 [] (block cfgCrc [.bytes [0x00#8, 0x00#8, 0x00#8, 0xFD#8]]) =
      gives 0b000#3 none [0x00#8, 0x00#8, 0x00#8, 0xFD#8] ∧
    ask 0x0000000A#32 []
        (block cfgLong [.bytes [0x00#8, 0x00#8, 0x00#8, 0xFD#8, 0x11#8, 0x22#8]]) =
      gives 0b000#3 none [0x00#8, 0x00#8, 0x00#8, 0xFD#8, 0x11#8, 0x22#8] ∧
    ask 0x0000000A#32 [] (block cfgCrc [.failure]) = gives 0b001#3 none [] := by decide

/-- V-RC-1 and V-RC-12: the frames sent. -/
theorem test_step_readConv_frame :
    sent (step (offer 0x0000000A#32 [] (block cfgNone [.bytes [0x00#8, 0x12#8, 0x34#8]]))) =
      some [[0x6C#8, 0x00#8, 0x00#8]] ∧
    sent (step (offer 0x0000000A#32 []
        (block cfgLong [.bytes [0x00#8, 0x12#8, 0x34#8, 0x56#8, 0x78#8, 0x9A#8]]))) =
      some [[0x6C#8, 0x00#8, 0x00#8, 0x00#8, 0x00#8, 0x00#8]] := by decide

/-! ### The step -/

/-- R143 for INIT = (NONE, 16-bit, no status byte): a reset while a request waits. -/
theorem test_step_reset :
    after (step { waitingAt .readConv [] (block cfgLong [.wait]) with moves := [.reset] }) =
      some (block cfgNone [.wait]) := by decide

/-- Reads: a response register that holds no value records its fault and the machine goes on (I6,
I14), and a port reads (V-GEO-12). -/
theorem test_reads :
    after (step { block cfgLong [] with moves := [.read .respStatus] }) =
      some { block cfgLong [] with faults := [.status] } ∧
    after (step { block cfgLong [] with moves := [.read .respValue] }) =
      some { block cfgLong [] with faults := [.value] } ∧
    after (step { block cfgLong [] with moves := [.read .respRx] }) =
      some { block cfgLong [] with faults := [.rx] } ∧
    (block cfgLong []).readOutput .regLenPort = .regLen 3#2 ∧
    (block cfgLong []).readOutput .convBytesPort = .convBytes 5#3 ∧
    (block cfgLong []).readOutput .convUnitsPort = .convUnits 3#2 := by decide

/-- I6: after a response without a value only the read of `RESP.value` faults (V-WR-4). -/
theorem test_reads_after_invalid :
    let s := (after (exec (.writeReg 0x15#8 0x2F#8) (block cfgCrc [.failure]))).getD
      (block cfgCrc [])
    s.readFault .respStatus = none ∧ s.readFault .respRx = none ∧
      s.readFault .respValue = some .value := by decide

/-- R153: an offer to a busy block waits, and the running request goes on to its response. -/
theorem test_step_offer_while_busy :
    (after (step (offer 0x00000004#32 []
        (waitingAt (.readReg 0x15#8) [] (block cfgNone [.bytes [0x12#8, 0x34#8]]))))).map
        (fun s => (seen s.resp, s.seq, s.moves)) =
      some (⟨0b000#3, some 0x34#8, [0x12#8, 0x34#8]⟩, .idle,
        [.request 0x00000004#32 []]) := by decide

/-- D32: the same read faults before the response and reads the status after it, where a pass lets
the waiting request end in between (V-RR-10). -/
theorem test_step_pass :
    (let s := waitingAt (.readReg 0x15#8) [] (block cfgNone [.bytes [0x12#8, 0x34#8]])
    (after (step { s with moves := [.read .respStatus] })).map (·.faults) = some [.status] ∧
      ((after (step { s with moves := [.pass, .read .respStatus] })).bind fun t =>
        after (step t)).map (fun t => (seen t.resp, t.seq, t.moves, t.faults)) =
        some (⟨0b000#3, some 0x34#8, [0x12#8, 0x34#8]⟩, .idle, [], [])) := by decide

/-- The state `withFetchWord` gives runs the word's request in the very next step. -/
theorem test_withFetchWord :
    response (step ((block cfgLong []).withFetchWord 32 0x00000005)) =
      gives 0b000#3 (some 0x77#8) [] := by decide

/-! ### Witnesses

For each statement with hypotheses, a concrete state and operands that meet all of them together;
for a statement with several clauses, one for each. -/

/-- Frames in store for reads of register 0x15 in CRC8 mode: V-RR-1 and the write's answer. -/
def readReply : Reply := .bytes [0x00#8, 0x0F#8, 0x60#8]
def zeroReply : Reply := .bytes [0x00#8, 0x00#8, 0x00#8]

theorem test_witness_DecodeOfEncode :
    (Instr.crc8 0x5A#8 (List.replicate 255 0x01#8)).wellFormed = true ∧
      (Instr.xor8 0x5A#8 [0x01#8, 0x02#8, 0x03#8]).wellFormed = true ∧
      (Instr.writeMasked 0xFF#8 0x30#8 0x40#8).wellFormed = true := by decide

theorem test_witness_EncodeOfDecode :
    decode 0x20301509#32 [] = .ok (.writeMasked 0x15#8 0x30#8 0x20#8) ∧
      decode 0x5A000001#32 [] = .ok (.crc8 0x5A#8 []) := ⟨by rfl, by rfl⟩

theorem test_witness_StepRunsDecodedRequest :
    let s := offer 0x00001506#32 [] (block cfgCrc [readReply])
    s.seq = .idle ∧ s.moves = [.request 0x00001506#32 []] ∧
      decode 0x00001506#32 [] = .ok (.readReg 0x15#8) := ⟨by rfl, by rfl, by rfl⟩

theorem test_witness_RefusedRequestOnlyResponds :
    let s := offer 0x00000000#32 [] (block cfgCrc [])
    s.seq = .idle ∧ s.latched = none ∧ s.moves = [.request 0x00000000#32 []] ∧
      decode 0x00000000#32 [] = .error .reservedOpcode := ⟨by rfl, by rfl, by rfl, by rfl⟩

theorem test_witness_BusyBlockLeavesOfferWaiting :
    let s := offer 0x00000004#32 [] (waitingAt .readConv [] (block cfgCrc [.wait]))
    s.seq = .busy ∧ s.moves = [.request 0x00000004#32 []] := by decide

/-- The second clause. -/
theorem test_witness_BusyBlockLeavesOfferWaiting_pass :
    ({ waitingAt .readConv [] (block cfgCrc [.failure]) with moves := [.pass] } : State).moves =
      [.pass] := by decide

theorem test_witness_IdleBlockWaits :
    (block cfgCrc []).seq = .idle ∧ (block cfgCrc []).moves = [] := by decide

theorem test_witness_ResetStepTakesResetValues :
    ({ waitingAt .readConv [] (block cfgCrc []) with moves := [.reset] } : State).moves =
      [.reset] := by decide

theorem test_witness_ReadsOfUnsetResponseRecordFault :
    (block cfgCrc []).resp.written = false ∧ (block cfgCrc []).resp.valueValid = false ∧
      ({ block cfgCrc [] with moves := [.read .respStatus] } : State).moves =
        [.read .respStatus] ∧
      ({ block cfgCrc [] with moves := [.read .respValue] } : State).moves =
        [.read .respValue] ∧
      ({ block cfgCrc [] with moves := [.read .respRx] } : State).moves = [.read .respRx] := by
  decide

/-- The state after V-RR-1, for the response registers, and a block that has not responded yet, BUSY
too, for a port and for `RESP.value_valid`. -/
theorem test_witness_OutputsReadTheState :
    (after (exec (.readReg 0x15#8) (block cfgCrc [readReply]))).map
      (fun t => (t.resp.written, t.resp.valueValid)) = some (true, true) ∧
    ({ waitingAt .readConv [] (block cfgLong []) with moves := [.read .convBytesPort] } :
      State).moves = [.read .convBytesPort] ∧
    (waitingAt .readConv [] (block cfgLong [])).seq = .busy ∧
    ({ block cfgCrc [] with moves := [.read .respValueValid] } : State).moves =
      [.read .respValueValid] := by decide

/-- A state with a recorded fault, and a read that records one. -/
theorem test_witness_NoStepStops :
    ({ block cfgCrc [] with faults := [.status] } : State).faults ≠ [] ∧
    (after (step { block cfgCrc [] with moves := [.read .respRx] })).map (·.faults) =
      some [.rx] := by decide

theorem test_witness_Crc8IsBitSerial : 1 < [0x02#8, 0x00#8].length := by decide

theorem test_witness_Crc8IsLinear :
    [0x02#8, 0x00#8].length = [0x41#8, 0x0F#8].length ∧ 2 ≤ [0x02#8, 0x00#8].length := by decide

theorem test_witness_Crc8IsRemainder : 2 ≤ [0x02#8, 0x00#8].length := by decide

/-- Both clauses: a flip in the last byte under a nonzero polynomial (V-CRC-1 and V-CRC-14), and
V-CRC-20 under 0. -/
theorem test_witness_Crc8SingleBitSensitivity :
    2 ≤ [0x02#8, 0x00#8].length ∧ 1 < 2 ∧ 7 < 8 ∧ (0x07#8 : Byte) ≠ 0x00#8 ∧
      1 ≤ 2 ∧ crc8 0x00#8 [0x02#8, 0x00#8] 2 0x00#8 = 0x00#8 := by decide

/-- V-XOR-5 and V-XOR-6, at the longest length, and the last bit of the last byte. -/
theorem test_witness_Xor8OrderAndSensitivity :
    [0x12#8, 0x34#8, 0x56#8].length ≤ 3 ∧
      [0x12#8, 0x34#8, 0x56#8].Perm [0x56#8, 0x34#8, 0x12#8] ∧
      2 < [0x12#8, 0x34#8, 0x56#8].length ∧ 7 < 8 := by decide

/-- The longest data. -/
theorem test_witness_Crc8RequestCompletes :
    (block cfgCrc []).seq = .idle ∧ (List.replicate 255 0x01#8).length ≤ 255 := by decide

theorem test_witness_Crc8RequestIgnoresConfiguration :
    (block cfgXor []).seq = .idle ∧ ([] : Frame).length ≤ 255 := by decide

theorem test_witness_Xor8RequestCompletes :
    (block cfgCrc []).seq = .idle ∧ [0x01#8, 0x02#8, 0x03#8].length ≤ 3 := by decide

/-- The shortest data of each clause that is too long. -/
theorem test_witness_OverlongDataIsIllegal :
    (block cfgCrc []).seq = .idle ∧ 3 < [0x01#8, 0x02#8, 0x03#8, 0x04#8].length ∧
      255 < (List.replicate 256 0x01#8).length := by decide

/-- For CfgWriteCompletes, CfgWriteIssuesNoExchange, CfgReadCompletes, GeomReadCompletes and
CfgWriteThenReadBack, whose
only hypothesis is an idle block. -/
theorem test_witness_ConfigurationRequests :
    (block cfgNone []).seq = .idle ∧ (block cfgLong []).seq = .idle := by decide

/-- An answered read, in each mode, and a failed one. -/
theorem test_witness_ReadRegCompletes :
    (block cfgCrc [readReply]).seq = .idle ∧
    (block cfgCrc [readReply]).transport.answer (readTx .crc8 0x15#8).length =
      .answered (some [0x00#8, 0x0F#8, 0x60#8]) ∧
    (block cfgXor [readReply]).transport.answer (readTx .xor 0x15#8).length =
      .answered (some [0x00#8, 0x0F#8, 0x60#8]) ∧
    (block cfgNone [.bytes [0x12#8, 0x34#8]]).transport.answer (readTx .none 0x15#8).length =
      .answered (some [0x12#8, 0x34#8]) ∧
    (block cfgCrc [.failure]).transport.answer (readTx .crc8 0x15#8).length = .answered none := by
  decide

/-- V-RR-1 and V-RR-3. -/
theorem test_witness_ReadRegIgnoresFirstByte :
    (block cfgCrc [readReply]).seq = .idle ∧
    (block cfgCrc [readReply]).transport.answer (readTx .crc8 0x15#8).length =
      .answered (some [0x00#8, 0x0F#8, 0x60#8]) ∧
    (block cfgCrc [.bytes [0xFF#8, 0x0F#8, 0x60#8]]).transport.answer
      (readTx .crc8 0x15#8).length = .answered (some [0xFF#8, 0x0F#8, 0x60#8]) ∧
    [0x00#8, 0x0F#8, 0x60#8].tail = [0xFF#8, 0x0F#8, 0x60#8].tail := by decide

theorem test_witness_WriteRegCompletes :
    (block cfgXor [zeroReply]).seq = .idle ∧
    (block cfgXor [zeroReply]).transport.answer (writeTx 0x07#8 .xor 0x15#8 0x2F#8).length =
      .answered (some [0x00#8, 0x00#8, 0x00#8]) ∧
    (block cfgCrc [.failure]).transport.answer (writeTx 0x07#8 .crc8 0x15#8 0x2F#8).length =
      .answered none := by decide

/-- Both modes. -/
theorem test_witness_WriteFrameCarriesCrc :
    (block cfgXor [zeroReply]).seq = .idle ∧ (block cfgXor [zeroReply]).cfg.cm = .xor ∧
    (block cfgXor [zeroReply]).transport.answer 3 =
      .answered (some [0x00#8, 0x00#8, 0x00#8]) ∧
    (block cfgCrc [.failure]).cfg.cm = .crc8 ∧
    (block cfgCrc [.failure]).transport.answer 3 = .answered none := by decide

/-- V-RM-1 and V-RM-7. -/
theorem test_witness_ReadMaskedCompletes :
    (block cfgCrc [.bytes [0x00#8, 0x2F#8, 0x80#8]]).seq = .idle ∧
    (block cfgCrc [.bytes [0x00#8, 0x2F#8, 0x80#8]]).transport.answer
      (readTx .crc8 0x15#8).length = .answered (some [0x00#8, 0x2F#8, 0x80#8]) ∧
    (block cfgCrc [.failure]).transport.answer (readTx .crc8 0x15#8).length = .answered none := by
  decide

/-- V-WM-1 and V-WM-4. -/
theorem test_witness_WriteMaskedCompletes :
    (block cfgCrc [readReply, zeroReply]).seq = .idle ∧
    (block cfgCrc [readReply, zeroReply]).transport.answer (readTx .crc8 0x15#8).length =
      .answered (some [0x00#8, 0x0F#8, 0x60#8]) ∧
    ((block cfgCrc [readReply, zeroReply]).transport.skip 1).answer
      (writeTx 0x07#8 .crc8 0x15#8 (merged 0x0F#8 0x30#8 0x20#8)).length =
        .answered (some [0x00#8, 0x00#8, 0x00#8]) ∧
    ((block cfgCrc [readReply, .failure]).transport.skip 1).answer
      (writeTx 0x07#8 .crc8 0x15#8 (merged 0x0F#8 0x30#8 0x20#8)).length = .answered none := by
  decide

/-- V-WM-4: the read completes and the write fails; both responses are given. -/
theorem test_witness_WriteMaskedIsReadThenWrite :
    (block cfgCrc [readReply, .failure]).seq = .idle ∧
    (after (exec (.readReg 0x15#8) (block cfgCrc [readReply, .failure]))).map
      (fun t => (t.seq, seen t.resp)) =
        some (.idle, ⟨0b000#3, some 0x0F#8, [0x00#8, 0x0F#8, 0x60#8]⟩) ∧
    ((after (exec (.readReg 0x15#8) (block cfgCrc [readReply, .failure]))).bind fun t =>
      (after (exec (.writeReg 0x15#8 ((0x0F#8 &&& ~~~0x30#8) ||| 0x20#8)) t)).map
        fun u => (u.seq, u.resp.status)) = some (.idle, 0b001#3) := by decide

/-- V-WM-5. -/
theorem test_witness_WriteMaskedStopsAfterFailedRead :
    (block cfgCrc [.failure]).seq = .idle ∧
      (block cfgCrc [.failure]).transport.answer (readTx .crc8 0x15#8).length =
        .answered none := by decide

/-- V-RC-1 and V-RC-3: both modes, shortest frames. -/
theorem test_witness_ReadConvUncheckedModes :
    (block cfgNone []).cfg.cm = .none ∧ (block cfgXor []).cfg.cm = .xor ∧
    (block cfgNone [.bytes [0x00#8, 0x12#8, 0x34#8]]).transport.answer (convLength cfgNone + 1) =
      .answered (some [0x00#8, 0x12#8, 0x34#8]) ∧
    (block cfgXor [.bytes [0x00#8, 0x12#8, 0x34#8, 0x56#8]]).transport.answer
      (convLength cfgXor + 1) = .answered (some [0x00#8, 0x12#8, 0x34#8, 0x56#8]) := by decide

/-- V-RC-14 (it passes) and V-RC-15 (a correct trailing CRC, which fails); also for
ReadConvCheckAcceptsFixedPoints. -/
theorem test_witness_ReadConvCrc8Mode :
    (block cfgCrc []).seq = .idle ∧ (block cfgCrc []).cfg.cm = .crc8 ∧
    (block cfgCrc [.bytes [0x00#8, 0x00#8, 0x00#8, 0xFD#8]]).transport.answer
      (convLength cfgCrc + 1) = .answered (some [0x00#8, 0x00#8, 0x00#8, 0xFD#8]) ∧
    (block cfgCrc [.bytes [0x00#8, 0x12#8, 0x34#8, 0xF1#8]]).transport.answer
      (convLength cfgCrc + 1) = .answered (some [0x00#8, 0x12#8, 0x34#8, 0xF1#8]) ∧
    0xF1#8 = crc8 0x07#8 [0x00#8, 0x12#8, 0x34#8, 0xF1#8] 3 0x00#8 := by decide

/-- V-RC-17, on the longest frame. -/
theorem test_witness_ReadConvFailure :
    (block cfgLong [.failure]).seq = .idle ∧
      (block cfgLong [.failure]).transport.answer (convLength cfgLong + 1) = .answered none := by
  decide

/-- A request without exchanges, one that ends (V-RR-1), one that waits. -/
theorem test_witness_RequestsIssueTheirExchanges :
    (block cfgCrc []).seq = .idle ∧ (after (exec .cfgRead (block cfgCrc []))).isSome = true ∧
      (after (exec (.readReg 0x15#8) (block cfgCrc [readReply]))).map (fun t => t.seq) =
        some .idle ∧
      (after (exec .readConv (block cfgCrc [.wait]))).map (fun t => t.seq) = some .busy := by
  decide

/-- V-RR-4: 0x15 and 0x55, all four requests answered. -/
theorem test_witness_AddressHighBitsIgnored :
    (block cfgCrc [readReply]).seq = .idle ∧ 0x15#8 &&& 0x3F#8 = 0x55#8 &&& 0x3F#8 ∧
      (after (exec (.readReg 0x15#8) (block cfgCrc [readReply]))).map (·.seq) = some .idle ∧
      (after (exec (.writeReg 0x15#8 0x2F#8) (block cfgCrc [zeroReply]))).map (·.seq) =
        some .idle ∧
      (after (exec (.readMasked 0x15#8 0x30#8) (block cfgCrc [readReply]))).map (·.seq) =
        some .idle ∧
      (after (exec (.writeMasked 0x15#8 0x30#8 0x2F#8)
        (block cfgCrc [readReply, zeroReply]))).map (·.seq) = some .idle := by decide

/-- P2: the third answer carries the byte written, 0x2F, and the field lies inside the mask. -/
theorem test_witness_MaskedWriteRoundTrip :
    let s := block cfgCrc [readReply, zeroReply, .bytes [0x00#8, 0x2F#8, 0x80#8]]
    s.seq = .idle ∧
      s.transport.answer (regLength s.cfg) = .answered (some [0x00#8, 0x0F#8, 0x60#8]) ∧
      (s.transport.skip 1).answer (regLength s.cfg) =
        .answered (some [0x00#8, 0x00#8, 0x00#8]) ∧
      (s.transport.skip 2).answer (regLength s.cfg) =
        .answered (some [0x00#8, 0x2F#8, 0x80#8]) ∧
      [0x00#8, 0x2F#8, 0x80#8].getD 1 0x00#8 =
        merged ([0x00#8, 0x0F#8, 0x60#8].getD 1 0x00#8) 0x30#8 0x20#8 ∧
      0x20#8 &&& ~~~0x30#8 = 0x00#8 := by decide

/-- The first clause, also for DelayedRequestEndsAlike: the request waits once, then is answered;
and one that is never answered. -/
theorem test_witness_UnansweredExchangeLeavesBusy :
    (block cfgCrc [.wait, readReply]).seq = .idle ∧ Exchanging (.readReg 0x15#8) ∧
      (block cfgCrc [.wait, readReply]).moves = [] ∧
      (block cfgCrc [.wait, readReply]).transport.script.head? = some .wait ∧
      (block cfgCrc [.never]).transport.script.head? = some .never :=
  ⟨rfl, .inl ⟨_, rfl⟩, rfl, rfl, rfl⟩

/-- The second clause: V-WM-1, whose write waits, and whose write is never answered. -/
theorem test_witness_UnansweredExchangeLeavesBusy_write :
    (block cfgCrc [readReply, .wait]).seq = .idle ∧
    (block cfgCrc [readReply, .wait]).transport.answer (readTx .crc8 0x15#8).length =
      .answered (some [0x00#8, 0x0F#8, 0x60#8]) ∧
    ((block cfgCrc [readReply, .wait]).transport.skip 1).script.head? = some .wait ∧
    (block cfgCrc [readReply, .never]).transport.answer (readTx .crc8 0x15#8).length =
      .answered (some [0x00#8, 0x0F#8, 0x60#8]) ∧
    ((block cfgCrc [readReply, .never]).transport.skip 1).script.head? = some .never := by decide

/-- The third clause: R139, a block that hangs, with nothing and with a request offered. -/
theorem test_witness_UnansweredExchangeLeavesBusy_forever :
    (waitingAt .readConv [] (block cfgCrc [.never])).seq = .busy ∧
    (waitingAt .readConv [] (block cfgCrc [.never])).LatchLegal ∧
    (waitingAt .readConv [] (block cfgCrc [.never])).transport.script.head? = some .never ∧
    (waitingAt .readConv [] (block cfgCrc [.never])).moves = [] ∧
    (offer 0x00000004#32 [] (waitingAt .readConv [] (block cfgCrc [.never]))).moves =
      [.request 0x00000004#32 []] :=
  ⟨rfl, ⟨_, _, rfl, rfl, rfl, trivial⟩, rfl, rfl, rfl⟩

/-- R139: a reset ends the hang of the request, and no response is written (R145). -/
theorem test_step_hang :
    after (step (waitingAt .readConv [] (block cfgNone [.never]))) =
      some (waitingAt .readConv [] (block cfgNone [.never])) ∧
    after (step { waitingAt .readConv [] (block cfgNone [.never]) with moves := [.reset] }) =
      some (block cfgNone [.never]) := by decide

/-- V-WM-1, waiting at its write. -/
theorem test_witness_WaitingWriteUsesSnapshot :
    let s := waitingAt (.writeMasked 0x15#8 0x30#8 0x20#8) [some [0x00#8, 0x0F#8, 0x60#8]]
      (block cfgCrc [zeroReply])
    s.seq = .busy ∧ s.moves = [] ∧
      s.latched = some { request := .writeMasked 0x15#8 0x30#8 0x20#8, cfg := cfgCrc,
                         answers := [some [0x00#8, 0x0F#8, 0x60#8]] } ∧
      s.transport.answer (writeTx 0x07#8 .crc8 0x15#8 (merged 0x0F#8 0x30#8 0x20#8)).length =
        .answered (some [0x00#8, 0x00#8, 0x00#8]) := by decide

theorem test_witness_RequestsCompleteWhenExchangesAnswer :
    (block cfgCrc [readReply, .failure]).seq = .idle ∧
      (block cfgCrc [readReply, .failure]).transport.Answers :=
  ⟨rfl, by unfold Transport.Answers; decide⟩

/-- V-WM-5 (one failed exchange), V-WM-3 (the second exchange fails, both bits); also for
ChecksumErrorReporting. -/
theorem test_witness_TransportErrorReporting :
    (block cfgCrc [.failure]).seq = .idle ∧
      (after (exec (.writeMasked 0x15#8 0x30#8 0x20#8) (block cfgCrc [.failure]))).map
        (fun t => (t.seq, t.resp.status, t.bus.length)) = some (.idle, 0b001#3, 1) ∧
      (after (exec (.writeMasked 0x15#8 0x30#8 0x20#8)
        (block cfgCrc [.bytes [0x00#8, 0x0F#8, 0x61#8], .failure]))).map
        (fun t => (t.seq, t.resp.status, t.bus.length)) = some (.idle, 0b011#3, 2) := by
  decide

/-- V-RR-2 and V-RC-5: a checked register read and a checked conversion read. -/
theorem test_witness_ChecksumErrorReporting :
    (block cfgCrc []).seq = .idle ∧
      (after (exec (.readReg 0x15#8) (block cfgCrc [.bytes [0x00#8, 0x0F#8, 0x61#8]]))).map
        (fun t => (t.seq, t.resp.status)) = some (.idle, 0b010#3) ∧
      (after (exec .readConv (block cfgCrc [.bytes [0x00#8, 0x12#8, 0x34#8, 0x56#8]]))).map
        (fun t => (t.seq, t.resp.status)) = some (.idle, 0b010#3) ∧
      (0b010#3 : BitVec 3).getLsbD 1 = true := by decide

theorem test_witness_ResponsesAreNotSticky :
    (block cfgCrc [readReply]).seq = .idle ∧
      (after (exec (.readReg 0x15#8) (block cfgCrc [readReply]))).map (·.seq) = some .idle := by
  decide

/-- An idle block with nothing latched, and the requests of ReadOnlyRequestsFrame and
CfgWriteFrame answering a next state. -/
theorem test_witness_ReadOnlyRequestsFrame :
    ((block cfgCrc []).seq = .idle → (block cfgCrc []).latched = none) ∧
      (after (exec (.crc8 0x00#8 [0x01#8]) (block cfgCrc []))).isSome = true ∧
      (after (exec (.xor8 0x00#8 [0x01#8]) (block cfgCrc []))).isSome = true ∧
      (after (exec .cfgRead (block cfgCrc []))).isSome = true ∧
      (after (exec .geomRead (block cfgCrc []))).isSome = true ∧
      (after (exec (.cfgWrite cfgLong) (block cfgCrc []))).isSome = true := by decide

/-- One request that ends and one that waits. -/
theorem test_witness_ExchangingRequestsFrame :
    Exchanging .readConv ∧
      (after (exec .readConv (block cfgCrc [.failure]))).map (·.seq) = some .idle ∧
      (after (exec .readConv (block cfgCrc [.wait]))).map (·.seq) = some .busy :=
  ⟨by simp [Exchanging], by decide, by decide⟩

/-- V-CFG-1: `CFG` and `UNITS` change; and a reset that changes them back. -/
theorem test_witness_ConfigurationChangesOnlyByCfgWriteOrReset :
    (after (step (offer 0x0E000003#32 [] (block cfgNone [])))).map (fun t => (t.cfg, t.units)) =
      some (cfgLong, 3#2) ∧ (block cfgNone []).cfg ≠ cfgLong ∧ (block cfgNone []).units ≠ 3#2 ∧
    (after (step { block cfgLong [] with moves := [.reset] })).map (·.cfg) = some cfgNone := by
  decide

/-- A step that completes two exchanges. -/
theorem test_witness_ParametersFixedAndBusGrows :
    (after (step (offer 0x20301509#32 [] (block cfgCrc [readReply, zeroReply])))).map
      (fun t => t.bus.length) = some 2 := by decide

/-- A waiting READ_CONV meets the invariant, and its step answers a next state. -/
theorem test_witness_StepKeepsInvariant :
    (waitingAt .readConv [] (block cfgCrc [.failure])).Inv ∧
      (after (step (waitingAt .readConv [] (block cfgCrc [.failure])))).isSome = true := by
  refine ⟨⟨by decide, ?_, ⟨_, _, rfl, rfl, rfl, trivial⟩, by intro e he; cases he⟩, by decide⟩
  exact ⟨by decide, fun _ => rfl, by decide, by decide, by decide⟩

end Sys2Proof.Tests
end

/-! ## Which exchanges a request performs (`20_memory.md` R40, R42)

The bytes of the frames sent, the exchanges of a request's plan, and the proof of O44. -/

namespace Sys2Proof.Machine

open Sys2Proof.Claims

/-! ### Command bytes and frames -/

/-- The command byte of a register read in the vocabulary of the statements, R61; `A[7:6]` is
ignored. -/
theorem readCommand_regAddr (a : Byte) : readCommand (regAddr a) = readCmd a := by
  refine BitVec.eq_of_getLsbD_eq fun i hi => ?_
  rw [readCommand, BitVec.getLsbD_append, BitVec.getLsbD_append]
  interval_cases i <;> simp [regAddr, readCmd]

theorem writeCommand_regAddr (a : Byte) : writeCommand (regAddr a) = writeCmd a := by
  refine BitVec.eq_of_getLsbD_eq fun i hi => ?_
  rw [writeCommand, BitVec.getLsbD_append, BitVec.getLsbD_append]
  interval_cases i <;> simp [regAddr, writeCmd]

theorem regAddr_setWidth (addr : RegAddr) : regAddr (addr.setWidth 8) = addr := by
  refine BitVec.eq_of_getLsbD_eq fun i hi => ?_
  have hi8 : i < 8 := by omega
  simp [regAddr, hi, hi8]

theorem readFrame_length (c : Cfg) (addr : RegAddr) :
    (readFrame c.cm addr).length = regLength c := by
  cases h : c.cm <;> simp [readFrame, regLength, h]

theorem readFrame_head (cm : ChecksumMode) (a : Byte) :
    (readFrame cm (regAddr a)).head? = some (readCmd a) := by
  cases cm <;> simp [readFrame, readCommand_regAddr]

theorem writeFrame_length (poly : Byte) (c : Cfg) (addr : RegAddr) (v : Byte) :
    (writeFrame poly c.cm addr v).length = regLength c := by
  cases h : c.cm <;> simp [writeFrame, regLength, h]

theorem writeFrame_head (poly : Byte) (cm : ChecksumMode) (a v : Byte) :
    (writeFrame poly cm (regAddr a) v).head? = some (writeCmd a) := by
  cases cm <;> simp [writeFrame, writeCommand_regAddr]

theorem convBytes_eq_convLength (c : Cfg) : convBytes c = convLength c := by
  cases h : c.cm <;> simp [convBytes, convLength, h]

theorem convFrame_eq_convTx (p : Params) (c : Cfg) : convFrame p.adcDataAddr c = convTx p c := by
  rw [convFrame, convTx, convBytes_eq_convLength, ← readCommand_regAddr, regAddr_setWidth]

theorem convTx_length (p : Params) (c : Cfg) : (convTx p c).length = convLength c + 1 := by
  simp [convTx]

/-- `CONV_BYTES` is 2 to 5, so the frame of a conversion read is 3 to 6 bytes long, R115. -/
theorem convLength_range (c : Cfg) : 2 ≤ convLength c ∧ convLength c ≤ 5 := by
  unfold convLength
  split <;> split <;> split <;> omega

/-! ### The exchanges of a plan -/

/-- The plan has nothing left to exchange: it responds. -/
def Plan.Responds (p : Plan) : Prop := ∃ st val rx, p = .done st val rx

theorem Plan.done_responds (st : BitVec 3) (val : Option Byte) (rx : Frame) :
    (Plan.done st val rx).Responds := ⟨st, val, rx, rfl⟩

theorem Plan.not_exchange_responds (tx : Frame) (rest : Option Frame → Plan) :
    ¬ (Plan.exchange tx rest).Responds := by rintro ⟨_, _, _, h⟩; cases h

theorem Plan.Responds.performed_eq_nil {p : Plan} (h : p.Responds) (as : List (Option Frame)) :
    p.performed as = [] := by obtain ⟨st, val, rx, rfl⟩ := h; rfl

/-- What running a plan adds to the bus: the exchanges it performs with some answers; the block is
IDLE afterwards only when the plan, so answered, responds. -/
theorem advance_bus {p : Plan} {s : State} (hbusy : s.seq = .busy) :
    ∃ as, (advance p s).bus = s.bus ++ p.performed as ∧
      ((advance p s).seq = .idle → (p.after as).Responds) := by
  obtain ⟨as, -, ⟨st, val, rx, hafter, -, hadv⟩ | ⟨tx, rest, -, hadv⟩⟩ := advance_cases p s
  · exact ⟨as, by rw [hadv, responded_bus], fun _ => ⟨st, val, rx, hafter⟩⟩
  · refine ⟨as, by rw [hadv]; rfl, fun hidle => ?_⟩
    have hseq : (advance p s).seq = s.seq := by rw [hadv]; rfl
    simp [hseq, hbusy] at hidle

/-- At most one exchange, of the frame `tx`, and exactly one when the request has ended. -/
def AtMostOne (tx : Frame) (ended : Prop) (es : List Exchange) : Prop :=
  es.length ≤ 1 ∧ (ended → es.length = 1) ∧ ∀ e ∈ es, e.tx = tx

/-- A plan that responds after one exchange performs at most that one. -/
theorem Plan.performed_atMostOne {tx : Frame} {rest : Option Frame → Plan} {ended : Prop}
    {as : List (Option Frame)} (hnone : (rest none).Responds)
    (hsome : ∀ rx, (rest (some rx)).Responds)
    (hended : ended → ((Plan.exchange tx rest).after as).Responds) :
    AtMostOne tx ended ((Plan.exchange tx rest).performed as) := by
  cases as with
  | nil =>
    refine ⟨by simp [performed], fun h => ?_, by simp [performed]⟩
    exact absurd (hended h) (not_exchange_responds tx rest)
  | cons a as =>
    have hrest : (rest a).Responds := by
      cases a with
      | none => exact hnone
      | some rx => exact hsome rx
    simp [AtMostOne, performed, hrest.performed_eq_nil]

theorem AtMostOne.oneRead {c : Cfg} {a : Byte} {ended : Prop} {es : List Exchange}
    (h : AtMostOne (readFrame c.cm (regAddr a)) ended es) : OneRead c ended es a := by
  obtain ⟨hle, hone, htx⟩ := h
  exact ⟨hle, hone, fun e he => by
    rw [htx e he]; exact ⟨readFrame_length c _, readFrame_head c.cm a⟩⟩

/-! ### Each request's plan performs the exchanges of its rule -/

section Issues

variable {p : Params} {c : Cfg} {ended : Prop} {as : List (Option Frame)}

theorem issues_planReadReg {a : Byte}
    (hended : ended → ((planReadReg p c a).after as).Responds) :
    Issues p c ended ((planReadReg p c a).performed as) (.readReg a) :=
  AtMostOne.oneRead <| Plan.performed_atMostOne
    (Plan.done_responds ..) (fun _ => Plan.done_responds ..) hended

theorem issues_planReadMasked {a m : Byte}
    (hended : ended → ((planReadMasked p c a m).after as).Responds) :
    Issues p c ended ((planReadMasked p c a m).performed as) (.readMasked a m) :=
  AtMostOne.oneRead <| Plan.performed_atMostOne
    (Plan.done_responds ..) (fun _ => Plan.done_responds ..) hended

theorem issues_planWriteReg {a v : Byte}
    (hended : ended → ((planWriteReg p c a v).after as).Responds) :
    Issues p c ended ((planWriteReg p c a v).performed as) (.writeReg a v) := by
  obtain ⟨hle, hone, htx⟩ : AtMostOne (writeFrame p.crc8Poly c.cm (regAddr a) v) ended
      ((planWriteReg p c a v).performed as) :=
    Plan.performed_atMostOne
      (Plan.done_responds ..) (fun _ => Plan.done_responds ..) hended
  refine ⟨hle, hone, fun e he => ?_⟩
  rw [htx e he]
  exact ⟨writeFrame_length .., writeFrame_head ..⟩

theorem issues_planReadConv (hended : ended → ((planReadConv p c).after as).Responds) :
    Issues p c ended ((planReadConv p c).performed as) .readConv := by
  obtain ⟨hle, hone, htx⟩ : AtMostOne (convFrame p.adcDataAddr c) ended
      ((planReadConv p c).performed as) :=
    Plan.performed_atMostOne
      (Plan.done_responds ..) (fun _ => Plan.done_responds ..) hended
  obtain ⟨hmin, hmax⟩ := convLength_range c
  refine ⟨hle, hone, fun e he => ?_⟩
  rw [htx e he, convFrame_eq_convTx, convTx_length]
  exact ⟨rfl, rfl, by omega, by omega⟩

/-- The read comes first; the write follows a completed read and no other (R109, D13). -/
theorem issues_planWriteMasked {a m v : Byte}
    (hended : ended → ((planWriteMasked p c a m v).after as).Responds) :
    Issues p c ended ((planWriteMasked p c a m v).performed as) (.writeMasked a m v) := by
  match as with
  | [] =>
    have hrun : ¬ ended := fun h => Plan.not_exchange_responds _ _ (hended h)
    simp [Issues, planWriteMasked, regRead, Plan.performed, hrun]
  | none :: _ =>
    simp [Issues, planWriteMasked, regRead, Plan.performed, readFrame_length, readFrame_head]
  | [some _] =>
    have hrun : ¬ ended := fun h => Plan.not_exchange_responds _ _ (hended h)
    simp [Issues, planWriteMasked, regRead, regWrite, Plan.performed, readFrame_length,
      readFrame_head, hrun]
  | some _ :: a :: _ =>
    cases a <;> simp [Issues, planWriteMasked, regRead, regWrite, Plan.performed,
      readFrame_length, readFrame_head, writeFrame_length, writeFrame_head]

/-- With any answers, the exchanges a request's plan performs are those of its rule. -/
theorem issues_performed {i : Instr} {plan : Plan} (hplan : requestPlan p c i = some plan)
    (hended : ended → (plan.after as).Responds) : Issues p c ended (plan.performed as) i := by
  cases i <;> simp only [requestPlan, Option.some.injEq, reduceCtorEq] at hplan <;> subst hplan
  case readReg => exact issues_planReadReg hended
  case writeReg => exact issues_planWriteReg hended
  case readMasked => exact issues_planReadMasked hended
  case writeMasked => exact issues_planWriteMasked hended
  case readConv => exact issues_planReadConv hended

end Issues

/-! ### The requests without exchanges -/

/-- A request without a plan performs no exchange, R40. -/
theorem exec_bus_of_no_plan {i : Instr} {s t : State} (hidle : s.seq = .idle)
    (hplan : requestPlan s.params s.cfg i = none) (ht : exec i s = .next t) : t.bus = s.bus := by
  cases i <;> simp only [requestPlan, reduceCtorEq] at hplan <;>
    simp only [exec, execCrc8, execXor8, execCfgWrite, execCfgRead, execGeomRead,
      serve_idle hidle, Host.Outcome.next.injEq] at ht <;> subst ht
  case crc8 => split <;> rfl
  case xor8 => split <;> rfl
  case cfgWrite => rfl
  case cfgRead => rfl
  case geomRead => rfl

theorem issues_nil_of_no_plan {p : Params} {c : Cfg} {i : Instr}
    (hplan : requestPlan p c i = none) (ended : Prop) : Issues p c ended [] i := by
  cases i <;> simp only [requestPlan, reduceCtorEq] at hplan <;> rfl

/-- Settles O44: a request without a plan leaves the bus alone; any other adds the exchanges its
plan performs, and is back in IDLE only when the plan responds. -/
theorem requestsIssueTheirExchanges : Obligations.RequestsIssueTheirExchanges := by
  intro s t i hidle ht
  cases hplan : requestPlan s.params s.cfg i with
  | none =>
    exact ⟨[], by simp [exec_bus_of_no_plan hidle hplan ht], issues_nil_of_no_plan hplan _⟩
  | some plan =>
    obtain rfl : advance plan (s.accept i) = t := by simpa [exec_plan hidle hplan] using ht
    obtain ⟨as, hbus, hend⟩ := advance_bus (p := plan) (accept_seq i s)
    exact ⟨plan.performed as, hbus, issues_performed hplan hend⟩

end Sys2Proof.Machine

/-! ## The CRC-8 generator and the CRC8 request (`40_checksum.md` R73 to R75)

The recursion of `crc8` over the bytes and of `crc8Byte` over the bits, the next state of CRC8, and
the proofs of O15 and O23. -/

namespace Sys2Proof.Machine

open Sys2Proof.Claims

/-! ### The generator, byte by byte and bit by bit -/

/-- Over no bytes the CRC is its seed, R73. -/
@[simp] theorem crc8_zero (poly : Byte) (s : Frame) (seed : Byte) : crc8 poly s 0 seed = seed := by
  simp [crc8]

/-- One more byte is taken into the CRC of the bytes before it, R73. -/
theorem crc8_succ (poly : Byte) (s : Frame) {n : Nat} (seed : Byte) (h : n < s.length) :
    crc8 poly s (n + 1) seed = crc8Byte poly (crc8 poly s n seed) s[n] := by
  simp only [crc8, List.take_succ_eq_append_getElem h, List.foldl_append, List.foldl_cons,
    List.foldl_nil]

/-- The step of one data bit, with the old top bit written as bit 7 of the accumulator. -/
theorem crc8Bit_eq (poly c : Byte) (d : Bool) :
    crc8Bit poly c d = if c.getLsbD 7 ≠ d then (c <<< 1) ^^^ poly else c <<< 1 := by
  rw [crc8Bit, BitVec.msb_eq_getLsbD_last]

/-- One byte is taken in from bit 7 down to bit 0, R73. -/
theorem crc8Byte_eq_foldl (poly c b : Byte) :
    crc8Byte poly c b =
      [7, 6, 5, 4, 3, 2, 1, 0].foldl (fun c i => crc8Bit poly c (b.getLsbD i)) c := by
  rw [crc8Byte, bitsMsbFirst, List.foldl_map]

/-- Settles O15: the recursion over the bytes, then over the bits of the last byte. -/
theorem crc8IsBitSerial : Obligations.Crc8IsBitSerial := by
  intro poly s seed
  refine ⟨crc8_zero poly s seed, fun n h => ?_⟩
  rw [crc8_succ poly s seed h, crc8Byte_eq_foldl]
  simp only [crc8Bit_eq]

/-! ### The CRC8 request -/

/-- CRC8 accepted with data its byte count can say responds with the CRC of the data, R74. -/
theorem exec_crc8_of_idle {s : State} {seed : Byte} {data : Frame} (hidle : s.seq = .idle)
    (hlen : data.length ≤ 255) :
    exec (.crc8 seed data) s =
      .next (s.responded [] statusOk (some (crc8 s.params.crc8Poly data data.length seed)) []) := by
  simp only [exec, execCrc8, serve_idle hidle, if_neg (Nat.not_lt.2 hlen), accept_params,
    accept_respond]

/-- A response without an exchange writes `RESP` and the sequencer alone, R13: in IDLE the rest is
as before but for the released latch and the counter of responses (log 6, 16). -/
theorem responded_nil_of_idle {s : State} (hidle : s.seq = .idle) (st : BitVec 3)
    (val : Option Byte) (rx : Frame) :
    s.responded [] st val rx =
      { s with latched := none, resp := Resp.of st val rx s.draws, draws := s.draws + 1 } := by
  simp [State.responded, Resp.of, hidle]

/-- Settles O23: the response of CRC8 is made of the polynomial, its operands and the counter of
responses. -/
theorem crc8RequestIgnoresConfiguration : Obligations.Crc8RequestIgnoresConfiguration := by
  intro s seed data hidle hlen
  refine ⟨Resp.of statusOk (some (crc8 s.params.crc8Poly data data.length seed)) [] s.draws,
    fun c u tr => ?_⟩
  have hidle' : ({ s with cfg := c, units := u, transport := tr } : State).seq = .idle := hidle
  rw [exec_crc8_of_idle hidle' hlen, responded_nil_of_idle hidle']

end Sys2Proof.Machine

/-! ## The register requests when their exchange is over (`42_register_transactions.md`)

The response of a request whose rule is one exchange, the frames and the check in the vocabulary of
the statements, and the proofs of O32, O34 and O35. -/

namespace Sys2Proof.Machine

open Sys2Proof.Claims

/-! ### A request with one exchange -/

theorem respond_eq_responded_nil (st : BitVec 3) (val : Option Byte) (rx : Frame) (s : State) :
    s.respond st val rx = s.responded [] st val rx := by
  simp [State.respond, State.responded, Resp.of]

/-- An exchange that is over before the rest of a request counts as the first of its exchanges. -/
theorem exchanged_responded (tx : Frame) (a : Option Frame) (es : List Exchange) (st : BitVec 3)
    (val : Option Byte) (rx : Frame) (s : State) :
    (s.exchanged tx a).responded es st val rx = s.responded (⟨tx, a⟩ :: es) st val rx := by
  simp [State.exchanged, State.responded, Transport.skip_succ]

/-- A request whose rule exchanges `tx` once responds as soon as that exchange is answered. -/
theorem exec_of_one_exchange {i : Instr} {s : State} {tx : Frame} {rest : Option Frame → Plan}
    {a : Option Frame} {st : BitVec 3} {val : Option Byte} {rx : Frame} (hidle : s.seq = .idle)
    (hplan : requestPlan s.params s.cfg i = some (.exchange tx rest))
    (hans : s.transport.answer tx.length = .answered a) (hrest : rest a = .done st val rx) :
    exec i s = .next (s.responded [⟨tx, a⟩] st val rx) := by
  have hans' : (s.accept i).transport.answer tx.length = .answered a := hans
  rw [exec_plan hidle hplan, advance_answered hans', hrest, advance_done,
    respond_eq_responded_nil, exchanged_responded, responded_accept]

/-! ### Frames and check in the vocabulary of the statements -/

theorem readFrame_eq_readTx (cm : ChecksumMode) (a : Byte) :
    readFrame cm (regAddr a) = readTx cm a := by
  cases cm <;> simp [readFrame, readTx, readCommand_regAddr]

theorem writeFrame_eq_writeTx (poly : Byte) (cm : ChecksumMode) (a v : Byte) :
    writeFrame poly cm (regAddr a) v = writeTx poly cm a v := by
  cases cm <;> simp [writeFrame, writeTx, writeCommand_regAddr]

/-- The XOR-8 of two bytes from seed 0 is their exclusive or, R77. -/
theorem xor8_pair (b c : Byte) : xor8 [b, c] 2 0x00#8 = b ^^^ c := by simp [xor8]

/-- The status of a completed register read: the mode's check over the command byte as sent and
`rx[1]`, against `rx[2]`, R97. -/
theorem checkStatus_readCheckFails (poly : Byte) (cm : ChecksumMode) (a : Byte) (rx : Frame) :
    checkStatus (readCheckFails poly cm (readCommand (regAddr a)) rx) =
      readStatus poly cm a rx := by
  rw [readCommand_regAddr]
  cases cm with
  | none => simp [readCheckFails, checkStatus, readStatus, statusOk]
  | xor =>
    simp [readCheckFails, checkStatus, readStatus, statusOk, checksumErr, rxAt, xor8_pair]
  | crc8 => simp [readCheckFails, checkStatus, readStatus, statusOk, checksumErr, rxAt]

/-! ### READ_REG -/

/-- Settles O32: READ_REG exchanges the read frame once; a failure ends it at once, a completed
exchange ends it with the check of what was received. -/
theorem readRegCompletes : Obligations.ReadRegCompletes := by
  intro s a r hidle hans
  rw [← readFrame_eq_readTx] at hans ⊢
  cases r with
  | none => exact exec_of_one_exchange hidle rfl hans rfl
  | some rx =>
    refine exec_of_one_exchange hidle rfl hans ?_
    rw [← checkStatus_readCheckFails]
    rfl

/-! ### WRITE_REG -/

/-- Settles O34: WRITE_REG exchanges the write frame once and keeps only whether it failed. -/
theorem writeRegCompletes : Obligations.WriteRegCompletes := by
  intro s a v r hidle hans
  rw [← writeFrame_eq_writeTx] at hans ⊢
  cases r <;> exact exec_of_one_exchange hidle rfl hans rfl

/-- In XOR mode as in CRC8 mode the write frame ends with the CRC-8 of its other two bytes, R101. -/
theorem writeTx_of_checked {poly : Byte} {cm : ChecksumMode} (h : cm = .xor ∨ cm = .crc8)
    (a v : Byte) :
    writeTx poly cm a v = [writeCmd a, v, crc8 poly [writeCmd a, v] 2 0x00#8] := by
  obtain rfl | rfl := h <;> rfl

/-- Settles O35: the exchange of O34, with the frame of the two checked modes. -/
theorem writeFrameCarriesCrc : Obligations.WriteFrameCarriesCrc := by
  intro s a v r hidle hcm hans
  have htx := writeTx_of_checked (poly := s.params.crc8Poly) hcm a v
  have hexec := writeRegCompletes s a v r hidle (by rw [htx]; exact hans)
  exact ⟨_, _, hexec, responded_bus .., by rw [htx]; rfl, by rw [htx]; rfl⟩

end Sys2Proof.Machine

/-! ## WRITE_MASKED when its read completed (`43_masked_access.md` R107 to R111)

The response of a request whose rule came to two exchanges, WRITE_MASKED as READ_REG followed by
WRITE_REG, and the proofs of O37 and O38. -/

namespace Sys2Proof.Machine

open Sys2Proof.Claims

/-! ### A request with two exchanges -/

/-- A request whose rule exchanges `tx` and then `tx'` responds once both exchanges are answered. -/
theorem exec_of_two_exchanges {i : Instr} {s : State} {tx tx' : Frame}
    {rest rest' : Option Frame → Plan} {a a' : Option Frame} {st : BitVec 3} {val : Option Byte}
    {rx : Frame} (hidle : s.seq = .idle)
    (hplan : requestPlan s.params s.cfg i = some (.exchange tx rest))
    (hans : s.transport.answer tx.length = .answered a) (hrest : rest a = .exchange tx' rest')
    (hans' : (s.transport.skip 1).answer tx'.length = .answered a')
    (hrest' : rest' a' = .done st val rx) :
    exec i s = .next (s.responded [⟨tx, a⟩, ⟨tx', a'⟩] st val rx) := by
  have hfirst : (s.accept i).transport.answer tx.length = .answered a := hans
  have hsecond : ((s.accept i).exchanged tx a).transport.answer tx'.length = .answered a' := by
    rw [Transport.skip_one] at hans'
    exact hans'
  rw [exec_plan hidle hplan, advance_answered hfirst, hrest, advance_answered hsecond, hrest',
    advance_done, respond_eq_responded_nil, exchanged_responded, exchanged_responded,
    responded_accept]

/-- Settles O37: a completed read leaves the write of the merged value as the second exchange,
whatever the check of the read says (R110). -/
theorem writeMaskedCompletes : Obligations.WriteMaskedCompletes := by
  intro s a m v rx r hidle hread hwrite
  rw [← readFrame_eq_readTx] at hread ⊢
  rw [← writeFrame_eq_writeTx] at hwrite ⊢
  rw [← checkStatus_readCheckFails]
  cases r <;> exact exec_of_two_exchanges hidle rfl hread rfl hwrite rfl

/-! ### READ_REG, then WRITE_REG -/

/-- A request that is back in IDLE had its first exchange answered: otherwise it waits there. -/
theorem answered_of_exec_idle {i : Instr} {s t : State} {tx : Frame} {rest : Option Frame → Plan}
    (hidle : s.seq = .idle) (hplan : requestPlan s.params s.cfg i = some (.exchange tx rest))
    (hexec : exec i s = .next t) (hend : t.seq = .idle) :
    ∃ a, s.transport.answer tx.length = .answered a := by
  cases hans : s.transport.answer tx.length with
  | answered a => exact ⟨a, rfl⟩
  | waiting =>
    have hwait : (s.accept i).transport.answer tx.length = .waiting := hans
    rw [exec_plan hidle hplan, advance_waiting hwait, Host.Outcome.next.injEq] at hexec
    subst hexec
    cases hend

/-- READ_REG that ended with a value completed its exchange, R99. -/
theorem readReg_completed {s t : State} {a : Byte} (hidle : s.seq = .idle)
    (hexec : exec (.readReg a) s = .next t) (hend : t.seq = .idle)
    (hvalid : t.resp.valueValid = true) :
    ∃ rx, s.transport.answer (readTx s.cfg.cm a).length = .answered (some rx) ∧
      t = s.responded [⟨readTx s.cfg.cm a, some rx⟩]
        (readStatus s.params.crc8Poly s.cfg.cm a rx) (some (rx.getD 1 0x00#8)) rx := by
  obtain ⟨r, hans⟩ := answered_of_exec_idle hidle rfl hexec hend
  rw [readFrame_eq_readTx] at hans
  have hread := readRegCompletes s a r hidle hans
  rw [hexec, Host.Outcome.next.injEq] at hread
  subst hread
  cases r with
  | none => simp at hvalid
  | some rx => exact ⟨rx, hans, rfl⟩

/-- WRITE_REG that ended had its exchange answered, R100. -/
theorem writeReg_completed {s t : State} {a v : Byte} (hidle : s.seq = .idle)
    (hexec : exec (.writeReg a v) s = .next t) (hend : t.seq = .idle) :
    ∃ r, s.transport.answer (writeTx s.params.crc8Poly s.cfg.cm a v).length = .answered r ∧
      t = s.responded [⟨writeTx s.params.crc8Poly s.cfg.cm a v, r⟩]
        (if r = none then 0b001#3 else 0b000#3) none [] := by
  obtain ⟨r, hans⟩ := answered_of_exec_idle hidle rfl hexec hend
  rw [writeFrame_eq_writeTx] at hans
  have hwrite := writeRegCompletes s a v r hidle hans
  rw [hexec, Host.Outcome.next.injEq] at hwrite
  exact ⟨r, hans, hwrite⟩

/-- Settles O38: the exchanges of the two requests are those that O37 asks for. -/
theorem writeMaskedIsReadThenWrite : Obligations.WriteMaskedIsReadThenWrite := by
  intro s t u a m v hidle hread htend hvalid hwrite huend
  obtain ⟨rx, hrans, rfl⟩ := readReg_completed hidle hread htend hvalid
  obtain ⟨r, hwans, rfl⟩ := writeReg_completed htend hwrite huend
  refine ⟨_, writeMaskedCompletes s a m v rx r hidle hrans hwans, rfl, ?_, ?_, rfl, rfl, rfl, rfl⟩
  · simp [merged]
  · simp [← Transport.skip_succ]

end Sys2Proof.Machine

/-! ## The conversion read when its exchange completed (`44_conversion_read.md` R114 to R118)

The response of READ_CONV to a completed exchange in every mode, and the proof of O40. -/

namespace Sys2Proof.Machine

open Sys2Proof.Claims

/-- READ_CONV whose exchange completes responds with the verdict of its check, no value and every
received byte, R114. -/
theorem exec_readConv_of_completed {s : State} {rx : Frame} (hidle : s.seq = .idle)
    (hans : s.transport.answer (convLength s.cfg + 1) = .answered (some rx)) :
    exec .readConv s =
      .next (s.responded [⟨convTx s.params s.cfg, some rx⟩]
        (checkStatus (convCheckFails s.params.crc8Poly s.cfg.cm rx)) none rx) := by
  rw [← convTx_length s.params, ← convFrame_eq_convTx] at hans
  rw [← convFrame_eq_convTx]
  exact exec_of_one_exchange hidle rfl hans rfl

/-- In NONE and XOR mode no received bytes fail the check, R117, R118. -/
theorem convCheckFails_of_unchecked {cm : ChecksumMode} (h : cm = .none ∨ cm = .xor)
    (poly : Byte) (rx : Frame) : convCheckFails poly cm rx = false := by
  obtain rfl | rfl := h <;> rfl

/-- Settles O40: the response to a completed exchange, with a check that cannot fail. -/
theorem readConvUncheckedModes : Obligations.ReadConvUncheckedModes := by
  intro s rx hidle hcm hans
  rw [exec_readConv_of_completed hidle hans, convCheckFails_of_unchecked hcm]
  rfl

end Sys2Proof.Machine

/-! ## CFG_WRITE and the world outside the block (`45_configuration.md` R123 to R125)

The next state of CFG_WRITE by the operations of the state, and the proof of O27. -/

namespace Sys2Proof.Machine

/-- CFG_WRITE taken in IDLE writes `CFG` and `UNITS` and responds with success, R123. -/
theorem exec_cfgWrite_of_idle {s : State} {c : Cfg} (hidle : s.seq = .idle) :
    exec (.cfgWrite c) s =
      .next (((s.accept (.cfgWrite c)).setCfg c).respond statusOk none []) := by
  simp only [exec, execCfgWrite, serve_idle hidle]

/-- Settles O27: acceptance, the write of `CFG` and the response each leave the record of
exchanges, the transport and the requester's moves alone. -/
theorem cfgWriteIssuesNoExchange : Obligations.CfgWriteIssuesNoExchange := by
  intro s c hidle
  refine ⟨_, exec_cfgWrite_of_idle hidle, ?bus, ?transport, ?moves⟩
  case bus => rw [respond_bus, setCfg_bus, accept_bus]
  case transport => rw [respond_transport, setCfg_transport, accept_transport]
  case moves => rw [respond_moves, setCfg_moves, accept_moves]

end Sys2Proof.Machine

/-! ## What a request that ended says of its exchanges (`60_exceptions.md` R129)

The ways in which a request ends, what each says of a failed exchange, and the proof of O51. -/

namespace Sys2Proof.Machine

open Sys2Proof.Claims

/-! ### The ways in which a request ends -/

/-- The ways in which a request ends: the exchanges it performed, and the status, the value and the
bytes of its response. -/
inductive Ending : List Exchange → BitVec 3 → Option Byte → Frame → Prop where
  /-- It performs no exchange. -/
  | noExchange {st : BitVec 3} {val : Option Byte} {rx : Frame} (hst : st.getLsbD 0 = false) :
    Ending [] st val rx
  /-- Its first exchange failed: D5, D12 and, for WRITE_MASKED, D13. -/
  | failed {tx : Frame} : Ending [⟨tx, none⟩] transportErr none []
  /-- Its one exchange completed. -/
  | completed {tx got : Frame} {st : BitVec 3} {val : Option Byte} {rx : Frame}
    (hst : st.getLsbD 0 = false) : Ending [⟨tx, some got⟩] st val rx
  /-- Its read completed, and its write of `v` is over, R107 and R111. -/
  | written {tx tx' rx : Frame} {a : Option Frame} {st : BitVec 3} {v : Byte}
    (hst : st.getLsbD 0 = false) (hv : tx'[1]? = some v) :
    Ending [⟨tx, some rx⟩, ⟨tx', a⟩] (st ||| if a = none then transportErr else statusOk) (some v)
      rx

theorem checkStatus_getLsbD_zero (fails : Bool) : (checkStatus fails).getLsbD 0 = false := by
  cases fails <;> rfl

/-! ### What an ending says of a failed exchange -/

section Ending

variable {es : List Exchange} {st : BitVec 3} {val : Option Byte} {rx : Frame}

theorem Ending.transportErr_iff (h : Ending es st val rx) :
    st.getLsbD 0 = true ↔ ∃ e ∈ es, e.rx = none := by
  cases h with
  | noExchange hst => simpa using hst
  | failed => simp [transportErr]
  | completed hst => simpa using hst
  | @written _ _ _ a _ _ hst _ =>
    cases a with
    | none => simp [transportErr]
    | some _ => simpa [statusOk] using hst

/-- No exchange follows a failed one. -/
theorem Ending.no_retry (h : Ending es st val rx) : ∀ e ∈ es.dropLast, e.rx ≠ none := by
  cases h <;> simp

theorem Ending.failed_of_length_le_one (h : Ending es st val rx) (herr : st.getLsbD 0 = true)
    (hlen : es.length ≤ 1) : st = transportErr ∧ val = none ∧ rx = [] := by
  cases h with
  | noExchange hst => exact absurd (hst.symm.trans herr) Bool.false_ne_true
  | failed => exact ⟨rfl, rfl, rfl⟩
  | completed hst => exact absurd (hst.symm.trans herr) Bool.false_ne_true
  | written => simp at hlen

/-- After two exchanges the value is the byte written and the bytes are those of the read. -/
theorem Ending.written_of_two {e₁ e₂ : Exchange} (h : Ending [e₁, e₂] st val rx) :
    ∃ v, val = some v ∧ e₂.tx[1]? = some v ∧ e₁.rx = some rx := by
  cases h with
  | written _ hv => exact ⟨_, rfl, hv, rfl⟩

end Ending

/-! ### Every request that ended did so in one of these ways -/

section Plans

variable {p : Params} {c : Cfg} {as : List (Option Frame)} {st : BitVec 3} {val : Option Byte}
  {rx : Frame}

/-- A rule of one exchange that reports a failure as R129 has it, and no failure otherwise. -/
theorem ending_of_one_exchange {tx : Frame} {rest : Option Frame → Plan}
    (hnone : rest none = .done transportErr none [])
    (hsome : ∀ got, ∃ fails val rx, rest (some got) = .done (checkStatus fails) val rx)
    (hdone : (Plan.exchange tx rest).after as = .done st val rx) :
    Ending ((Plan.exchange tx rest).performed as) st val rx := by
  match as with
  | [] => cases hdone
  | none :: _ =>
    simp only [Plan.after, Plan.performed, hnone] at hdone ⊢
    cases hdone
    exact .failed
  | some got :: _ =>
    obtain ⟨fails, val', rx', hrest⟩ := hsome got
    simp only [Plan.after, Plan.performed, hrest] at hdone ⊢
    cases hdone
    exact .completed (checkStatus_getLsbD_zero fails)

/-- The second byte of a write frame is the value written. -/
theorem writeFrame_getElem?_one (poly : Byte) (cm : ChecksumMode) (addr : RegAddr) (v : Byte) :
    (writeFrame poly cm addr v)[1]? = some v := by
  cases cm <;> rfl

theorem ending_planWriteMasked {a m v : Byte}
    (hdone : (planWriteMasked p c a m v).after as = .done st val rx) :
    Ending ((planWriteMasked p c a m v).performed as) st val rx := by
  match as with
  | [] => cases hdone
  | none :: _ => cases hdone; exact .failed
  | [some _] => cases hdone
  | some _ :: a :: _ =>
    cases a <;> cases hdone <;>
      exact .written (checkStatus_getLsbD_zero _) (writeFrame_getElem?_one ..)

/-- A request's plan that has responded ended in one of the ways of `Ending`. -/
theorem ending_performed {i : Instr} {plan : Plan} (hplan : requestPlan p c i = some plan)
    (hdone : plan.after as = .done st val rx) : Ending (plan.performed as) st val rx := by
  cases i <;> simp only [requestPlan, Option.some.injEq, reduceCtorEq] at hplan <;> subst hplan
  case readReg => exact ending_of_one_exchange rfl (fun _ => ⟨_, _, _, rfl⟩) hdone
  case writeReg => exact ending_of_one_exchange rfl (fun _ => ⟨false, _, _, rfl⟩) hdone
  case readMasked => exact ending_of_one_exchange rfl (fun _ => ⟨_, _, _, rfl⟩) hdone
  case writeMasked => exact ending_planWriteMasked hdone
  case readConv => exact ending_of_one_exchange rfl (fun _ => ⟨_, _, _, rfl⟩) hdone

end Plans

/-- The requests with a plan are those that perform exchanges, R40. -/
theorem exchanging_of_plan {p : Params} {c : Cfg} {i : Instr} {plan : Plan}
    (hplan : requestPlan p c i = some plan) : Exchanging i := by
  cases i <;> simp [requestPlan] at hplan <;> simp [Exchanging]

/-- A request without a plan responds at once, with success or ILLEGAL. -/
theorem exec_resp_of_no_plan {i : Instr} {s t : State} (hidle : s.seq = .idle)
    (hplan : requestPlan s.params s.cfg i = none) (ht : exec i s = .next t) :
    ∃ st val rx, st.getLsbD 0 = false ∧ t.resp = Resp.of st val rx s.draws := by
  have hok : statusOk.getLsbD 0 = false := rfl
  have hillegal : illegal.getLsbD 0 = false := rfl
  cases i <;> simp only [requestPlan, reduceCtorEq] at hplan <;>
    simp only [exec, execCrc8, execXor8, execCfgWrite, execCfgRead, execGeomRead,
      serve_idle hidle, Host.Outcome.next.injEq] at ht <;> subst ht
  case crc8 =>
    split
    · exact ⟨_, _, _, hillegal, rfl⟩
    · exact ⟨_, _, _, hok, rfl⟩
  case xor8 =>
    split
    · exact ⟨_, _, _, hillegal, rfl⟩
    · exact ⟨_, _, _, hok, rfl⟩
  case cfgWrite => exact ⟨_, _, _, hok, rfl⟩
  case cfgRead => exact ⟨_, _, _, hok, rfl⟩
  case geomRead => exact ⟨_, _, _, hok, rfl⟩

/-- A plan whose run leaves the block in IDLE responded after the exchanges it performed. -/
theorem advance_of_end {p : Plan} {s : State} (hbusy : s.seq = .busy)
    (hend : (advance p s).seq = .idle) :
    ∃ as st val rx, p.after as = .done st val rx ∧
      advance p s = s.responded (p.performed as) st val rx := by
  obtain ⟨as, -, ⟨st, val, rx, hafter, -, hadv⟩ | ⟨_, _, -, hadv⟩⟩ := advance_cases p s
  · exact ⟨as, st, val, rx, hafter, hadv⟩
  · have hseq : (advance p s).seq = s.seq := by rw [hadv]; rfl
    simp [hseq, hbusy] at hend

/-- A request that ended did so in one of the ways of `Ending`; only one with a plan performed
exchanges. -/
theorem exec_ending {i : Instr} {s t : State} (hidle : s.seq = .idle) (hexec : exec i s = .next t)
    (hend : t.seq = .idle) :
    ∃ es st val rx, Ending es st val rx ∧ t.bus = s.bus ++ es ∧
      t.resp = Resp.of st val rx s.draws ∧ (es ≠ [] → Exchanging i) := by
  cases hplan : requestPlan s.params s.cfg i with
  | none =>
    obtain ⟨st, val, rx, hst, hresp⟩ := exec_resp_of_no_plan hidle hplan hexec
    exact ⟨[], st, val, rx, .noExchange hst, by simp [exec_bus_of_no_plan hidle hplan hexec],
      hresp, fun h => absurd rfl h⟩
  | some plan =>
    obtain rfl : advance plan (s.accept i) = t := by simpa [exec_plan hidle hplan] using hexec
    obtain ⟨as, st, val, rx, hdone, hadv⟩ := advance_of_end (accept_seq i s) hend
    exact ⟨_, st, val, rx, ending_performed hplan hdone, by rw [hadv]; rfl, by rw [hadv]; rfl,
      fun _ => exchanging_of_plan hplan⟩

/-- Settles O51: each clause holds of every way in which a request ends. -/
theorem transportErrorReporting : Obligations.TransportErrorReporting := by
  intro s t i hidle hexec hend
  obtain ⟨es, st, val, rx, hending, hbus, hresp, hplan⟩ := exec_ending hidle hexec hend
  rw [hresp]
  refine ⟨es, hbus, hending.transportErr_iff, fun herr => ?only, hending.no_retry,
    fun herr hlen => ?one, fun _ e₁ e₂ hes => ?two⟩
  case only =>
    obtain ⟨e, he, -⟩ := hending.transportErr_iff.1 herr
    exact hplan (List.ne_nil_of_mem he)
  case one =>
    obtain ⟨rfl, rfl, rfl⟩ := hending.failed_of_length_le_one herr hlen
    exact ⟨rfl, rfl, rfl⟩
  case two =>
    subst hes
    obtain ⟨v, rfl, hsent, hread⟩ := hending.written_of_two
    exact ⟨rfl, hsent, hread⟩

end Sys2Proof.Machine

/-! ## Request words and the decoder (`30_encoding.md` R54 to R60, R66)

A word by its fields, the rows of the opcode table by the fields they fix, one row of the decoder,
and the proofs of O1 to O5. -/

namespace Sys2Proof

open Sys2Proof.Claims Sys2Proof.Laws.EncodedOpcode

/-! ### A word is its five fields, R54 -/

@[simp] theorem aField_packWord (v m a : Byte) (op : BitVec 4) :
    aField (packWord v m a op) = a := by
  refine BitVec.eq_of_getLsbD_eq fun i hi => ?_
  have h₁ : 8 + i < 16 := by omega
  have h₂ : 8 + i < 24 := by omega
  have h₃ : 8 + i < 32 := by omega
  have hop : op.getLsbD (8 + i) = false := BitVec.getLsbD_of_ge _ _ (by omega)
  simp [aField, packWord, hi, h₁, h₂, h₃, hop]

@[simp] theorem mField_packWord (v m a : Byte) (op : BitVec 4) :
    mField (packWord v m a op) = m := by
  refine BitVec.eq_of_getLsbD_eq fun i hi => ?_
  have h₁ : 16 + i < 24 := by omega
  have h₂ : 16 + i < 32 := by omega
  have h₃ : 16 + i - 8 = 8 + i := by omega
  have hop : op.getLsbD (16 + i) = false := BitVec.getLsbD_of_ge _ _ (by omega)
  simp [mField, packWord, hi, h₁, h₂, h₃, hop]

@[simp] theorem vField_packWord (v m a : Byte) (op : BitVec 4) :
    vField (packWord v m a op) = v := by
  refine BitVec.eq_of_getLsbD_eq fun i hi => ?_
  have h₁ : 24 + i < 32 := by omega
  have h₂ : 24 + i - 8 = 16 + i := by omega
  have h₃ : 24 + i - 16 = 8 + i := by omega
  have ha : a.getLsbD (16 + i) = false := BitVec.getLsbD_of_ge _ _ (by omega)
  have hop : op.getLsbD (24 + i) = false := BitVec.getLsbD_of_ge _ _ (by omega)
  simp [vField, packWord, hi, h₁, h₂, h₃, ha, hop]

/-- Two words with the same fields are the same word. -/
theorem word_ext {w w' : Word} (hop : opField w = opField w') (hrsv : rsvField w = rsvField w')
    (ha : aField w = aField w') (hm : mField w = mField w') (hv : vField w = vField w') :
    w = w' := by
  refine BitVec.eq_of_getLsbD_eq fun i hi => ?_
  have bit {n : Nat} (start k : Nat) (hk : k < n)
      (h : w.extractLsb' start n = w'.extractLsb' start n) :
      w.getLsbD (start + k) = w'.getLsbD (start + k) := by
    simpa [hk] using congrArg (·.getLsbD k) h
  rcases (by omega : i < 4 ∨ (4 ≤ i ∧ i < 8) ∨ (8 ≤ i ∧ i < 16) ∨ (16 ≤ i ∧ i < 24) ∨
    (24 ≤ i ∧ i < 32)) with h | ⟨h, h'⟩ | ⟨h, h'⟩ | ⟨h, h'⟩ | ⟨h, h'⟩
  · simpa using bit 0 i h hop
  · simpa [h] using bit 4 (i - 4) (by omega) hrsv
  · simpa [h] using bit 8 (i - 8) (by omega) ha
  · simpa [h] using bit 16 (i - 16) (by omega) hm
  · simpa [h] using bit 24 (i - 24) (by omega) hv

/-- A word whose `RSV` is 0 is packed from its other fields. -/
theorem packWord_fields {w : Word} (h : rsvField w = 0) :
    packWord (vField w) (mField w) (aField w) (opField w) = w :=
  word_ext (opField_packWord ..) ((rsvField_packWord ..).trans h.symm) (aField_packWord ..)
    (mField_packWord ..) (vField_packWord ..)

/-! ### The rows of the opcode table, R58 -/

/-- A word selects a row when each of its fields does. -/
theorem selects_iff (w : Word) (r : Row) :
    selects w r = true ↔
      opField w &&& opField r.mask = opField r.pattern ∧
      rsvField w &&& rsvField r.mask = rsvField r.pattern ∧
      aField w &&& aField r.mask = aField r.pattern ∧
      mField w &&& mField r.mask = mField r.pattern ∧
      vField w &&& vField r.mask = vField r.pattern := by
  simp only [selects, beq_iff_eq, opField, rsvField, aField, mField, vField,
    ← BitVec.extractLsb'_and]
  exact ⟨fun h => by simp [h], fun ⟨hop, hrsv, ha, hm, hv⟩ => word_ext hop hrsv ha hm hv⟩


theorem nibble_and_ones (b : BitVec 4) : b &&& 0xF#4 = b := BitVec.and_allOnes

theorem byte_and_ones (b : Byte) : b &&& 0xFF#8 = b := BitVec.and_allOnes

section Rows

variable (w : Word)

theorem selects_rowCrc8 : selects w rowCrc8 = true ↔
    opField w = 0x1#4 ∧ rsvField w = 0#4 ∧ mField w = 0#8 := by
  simp [selects_iff, rowCrc8, opField, rsvField, aField, mField, vField, nibble_and_ones,
    byte_and_ones]

theorem selects_rowXor8 : selects w rowXor8 = true ↔
    opField w = 0x2#4 ∧ rsvField w = 0#4 ∧ mField w = 0#8 := by
  simp [selects_iff, rowXor8, opField, rsvField, aField, mField, vField, nibble_and_ones,
    byte_and_ones]

theorem selects_rowCfgWrite : selects w rowCfgWrite = true ↔
    opField w = 0x3#4 ∧ rsvField w = 0#4 ∧ aField w = 0#8 ∧ mField w = 0#8 ∧
      vField w &&& 0xF0#8 = 0#8 := by
  simp [selects_iff, rowCfgWrite, opField, rsvField, aField, mField, vField, nibble_and_ones,
    byte_and_ones]

theorem selects_rowCfgRead : selects w rowCfgRead = true ↔
    opField w = 0x4#4 ∧ rsvField w = 0#4 ∧ aField w = 0#8 ∧ mField w = 0#8 ∧ vField w = 0#8 := by
  simp [selects_iff, rowCfgRead, opField, rsvField, aField, mField, vField, nibble_and_ones,
    byte_and_ones]

theorem selects_rowGeomRead : selects w rowGeomRead = true ↔
    opField w = 0x5#4 ∧ rsvField w = 0#4 ∧ aField w = 0#8 ∧ mField w = 0#8 ∧ vField w = 0#8 := by
  simp [selects_iff, rowGeomRead, opField, rsvField, aField, mField, vField, nibble_and_ones,
    byte_and_ones]

theorem selects_rowReadReg : selects w rowReadReg = true ↔
    opField w = 0x6#4 ∧ rsvField w = 0#4 ∧ mField w = 0#8 ∧ vField w = 0#8 := by
  simp [selects_iff, rowReadReg, opField, rsvField, aField, mField, vField, nibble_and_ones,
    byte_and_ones]

theorem selects_rowWriteReg : selects w rowWriteReg = true ↔
    opField w = 0x7#4 ∧ rsvField w = 0#4 ∧ mField w = 0#8 := by
  simp [selects_iff, rowWriteReg, opField, rsvField, aField, mField, vField, nibble_and_ones,
    byte_and_ones]

theorem selects_rowReadMasked : selects w rowReadMasked = true ↔
    opField w = 0x8#4 ∧ rsvField w = 0#4 ∧ vField w = 0#8 := by
  simp [selects_iff, rowReadMasked, opField, rsvField, aField, mField, vField, nibble_and_ones,
    byte_and_ones]

theorem selects_rowWriteMasked : selects w rowWriteMasked = true ↔
    opField w = 0x9#4 ∧ rsvField w = 0#4 := by
  simp [selects_iff, rowWriteMasked, opField, rsvField, aField, mField, vField, nibble_and_ones]

theorem selects_rowReadConv : selects w rowReadConv = true ↔
    opField w = 0xA#4 ∧ rsvField w = 0#4 ∧ aField w = 0#8 ∧ mField w = 0#8 ∧ vField w = 0#8 := by
  simp [selects_iff, rowReadConv, opField, rsvField, aField, mField, vField, nibble_and_ones,
    byte_and_ones]

end Rows

/-! ### The configuration byte, R66 -/

theorem modeCode_of_modeOfCode {k : BitVec 2} {cm : ChecksumMode} (h : modeOfCode k = some cm) :
    modeCode cm = k := by
  unfold modeOfCode at h
  split at h
  next hk => cases h; exact hk.symm
  split at h
  next hk => cases h; exact hk.symm
  split at h
  next hk => cases h; exact hk.symm
  cases h

theorem widthCode_widthOfBit (b : Bool) : widthCode (widthOfBit b) = BitVec.ofBool b := by
  cases b <;> rfl

theorem cfgOfByte_cfgByte (c : Cfg) : cfgOfByte (cfgByte c) = some c := by
  obtain ⟨cm, sw, sb⟩ := c
  cases cm <;> cases sw <;> cases sb <;> rfl

theorem cfgByte_high_nibble (c : Cfg) : cfgByte c &&& 0xF0#8 = 0#8 := by
  obtain ⟨cm, sw, sb⟩ := c
  cases cm <;> cases sw <;> cases sb <;> rfl

/-- A byte with a zero high nibble that gives a configuration is that configuration's byte. -/
theorem cfgByte_of_cfgOfByte {v : Byte} {c : Cfg} (h : cfgOfByte v = some c)
    (hv : v &&& 0xF0#8 = 0#8) : cfgByte c = v := by
  obtain ⟨cm, hcm, rfl⟩ := Option.map_eq_some_iff.1 h
  have hhigh (i : Nat) : (v.getLsbD i && (0xF0#8).getLsbD i) = false := by
    rw [← BitVec.getLsbD_and, hv, BitVec.getLsbD_zero]
  refine BitVec.eq_of_getLsbD_eq fun i hi => ?_
  specialize hhigh i
  rw [cfgByte, modeCode_of_modeOfCode hcm, BitVec.getLsbD_append, BitVec.getLsbD_append,
    BitVec.getLsbD_append, widthCode_widthOfBit]
  clear hcm h hv
  interval_cases i <;> simp_all

theorem modeOfCode_eq_none_iff : ∀ k : BitVec 2, modeOfCode k = none ↔ k.toNat = 3 := by decide

/-- A byte gives no configuration when its low two bits are the reserved mode 11, R62. -/
theorem cfgOfByte_eq_none_iff (v : Byte) : cfgOfByte v = none ↔ v.toNat % 4 = 3 := by
  simp [cfgOfByte, modeOfCode_eq_none_iff]

/-! ### One row of the decoder -/

theorem decodeRow_ok_iff {w : Word} {d : Frame} {r : Row} {n : Nat} {i j : Instr} :
    decodeRow w d r n i = .ok j ↔ selects w r = true ∧ d.length = n ∧ i = j := by
  unfold decodeRow
  split
  · simp_all
  · split <;> simp_all

theorem decodeRow_error_iff {w : Word} {d : Frame} {r : Row} {n : Nat} {i : Instr} :
    (∃ e, decodeRow w d r n i = .error e) ↔ ¬ (selects w r = true ∧ d.length = n) := by
  unfold decodeRow
  split
  · simp_all
  · split <;> simp_all

/-! ### Decoding and encoding -/

/-- Settles O1: the fields of the word are the operands that were packed, and the row's zero fields
are zero. -/
theorem decodeOfEncode : Obligations.DecodeOfEncode := by
  intro i hwf
  cases i with
  | crc8 seed data =>
    have hlen : data.length ≤ 255 := by simpa [Instr.wellFormed] using hwf
    have hmod : data.length % 256 = data.length := Nat.mod_eq_of_lt (by omega)
    simp [encode, encodeWord, encodeData, decode, opField_packWord, rsvField_packWord,
      decodeRow_ok_iff, selects_rowCrc8, hmod]
  | xor8 seed data =>
    have hlen : data.length ≤ 3 := by simpa [Instr.wellFormed] using hwf
    have hmod : data.length % 256 = data.length := Nat.mod_eq_of_lt (by omega)
    simp [encode, encodeWord, encodeData, decode, opField_packWord, rsvField_packWord,
      decodeRow_ok_iff, selects_rowXor8, hmod, Nat.not_lt.2 hlen]
  | cfgWrite cfg =>
    simp [encode, encodeWord, encodeData, decode, opField_packWord, rsvField_packWord,
      decodeRow_ok_iff, selects_rowCfgWrite, cfgOfByte_cfgByte, cfgByte_high_nibble]
  | cfgRead | geomRead | readReg | writeReg | readMasked | writeMasked | readConv =>
    simp [encode, encodeWord, encodeData, decode, opField_packWord, rsvField_packWord,
      decodeRow_ok_iff, selects_rowCfgRead, selects_rowGeomRead, selects_rowReadReg,
      selects_rowWriteReg, selects_rowReadMasked, selects_rowWriteMasked, selects_rowReadConv]

/-- Settles O2: what the row of an accepted word fixes, with the operands read from its other
fields, is every field of the word. -/
theorem encodeOfDecode : Obligations.EncodeOfDecode := by
  intro w d i h
  unfold decode at h
  split at h
  case h_1 =>
    obtain ⟨hsel, hlen, rfl⟩ := decodeRow_ok_iff.1 h
    obtain ⟨hop, hrsv, hm⟩ := (selects_rowCrc8 w).1 hsel
    have hbyte := (aField w).isLt
    refine ⟨?_, decide_eq_true (by omega)⟩
    simpa [encode, encodeWord, encodeData, hop, hm, hlen] using packWord_fields hrsv
  case h_2 =>
    split at h
    next => cases h
    next hshort =>
      obtain ⟨hsel, hlen, rfl⟩ := decodeRow_ok_iff.1 h
      obtain ⟨hop, hrsv, hm⟩ := (selects_rowXor8 w).1 hsel
      refine ⟨?_, decide_eq_true (by omega)⟩
      simpa [encode, encodeWord, encodeData, hop, hm, hlen] using packWord_fields hrsv
  case h_3 =>
    split at h
    next => cases h
    next cfg hcfg =>
      obtain ⟨hsel, hlen, rfl⟩ := decodeRow_ok_iff.1 h
      obtain ⟨hop, hrsv, ha, hm, hv⟩ := (selects_rowCfgWrite w).1 hsel
      refine ⟨?_, rfl⟩
      simpa [encode, encodeWord, encodeData, hop, ha, hm, cfgByte_of_cfgOfByte hcfg hv,
        List.length_eq_zero_iff.1 hlen] using packWord_fields hrsv
  case h_11 => cases h
  all_goals
    obtain ⟨hsel, hlen, rfl⟩ := decodeRow_ok_iff.1 h
    simp only [selects_rowCfgRead, selects_rowGeomRead, selects_rowReadReg, selects_rowWriteReg,
      selects_rowReadMasked, selects_rowWriteMasked, selects_rowReadConv] at hsel
    refine ⟨?_, rfl⟩
    simpa [encode, encodeWord, encodeData, hsel, List.length_eq_zero_iff.1 hlen] using
      packWord_fields (w := w) (by simp [hsel])

/-! ### Refusals, R60 -/

/-- A byte with a zero high nibble is a number below 16. -/
theorem high_nibble_eq_zero_iff : ∀ b : Byte, b &&& 0xF0#8 = 0#8 ↔ b.toNat < 16 := by decide

theorem opField_toNat (w : Word) : (opField w).toNat = w.toNat % 16 := by simp [opField]

theorem rsvField_toNat (w : Word) : (rsvField w).toNat = w.toNat / 16 % 16 := by
  simp [rsvField, Nat.shiftRight_eq_div_pow]

theorem aField_toNat (w : Word) : (aField w).toNat = w.toNat / 2 ^ 8 % 256 := by
  simp [aField, Nat.shiftRight_eq_div_pow]

theorem mField_toNat (w : Word) : (mField w).toNat = w.toNat / 2 ^ 16 % 256 := by
  simp [mField, Nat.shiftRight_eq_div_pow]

theorem vField_toNat (w : Word) : (vField w).toNat = w.toNat / 2 ^ 24 := by
  rw [vField, BitVec.extractLsb'_toNat, Nat.shiftRight_eq_div_pow]
  omega

/-- Settles O3: in each row of the table the decoder's conditions and R60's are the same statements
about the numbers of the word's fields. -/
theorem refusedExactlyWhenMalformed : Obligations.RefusedExactlyWhenMalformed := by
  intro w d
  simp only [Malformed, ← opField_toNat, ← rsvField_toNat, ← aField_toNat, ← mField_toNat,
    ← vField_toNat, ne_eq, ← List.length_eq_zero_iff]
  unfold decode
  split
  case h_1 hop =>
    simp only [decodeRow_error_iff, selects_rowCrc8, ← BitVec.toNat_inj, BitVec.toNat_ofNat]
    simp only [hop, Nat.reduceEqDiff, Nat.reduceLeDiff, false_and, false_or, true_and, or_false]
    omega
  case h_2 hop =>
    split
    next hlong => exact iff_of_true ⟨_, rfl⟩ (by omega)
    next hshort =>
      simp only [decodeRow_error_iff, selects_rowXor8, ← BitVec.toNat_inj, BitVec.toNat_ofNat]
      simp only [hop, Nat.reduceEqDiff, Nat.reduceLeDiff, false_and, false_or, true_and, or_false]
      omega
  case h_3 hop =>
    split
    next hnone =>
      have hmode := (cfgOfByte_eq_none_iff _).1 hnone
      exact iff_of_true ⟨_, rfl⟩ (by omega)
    next cfg hsome =>
      have hmode : ¬ (vField w).toNat % 4 = 3 := by simp [← cfgOfByte_eq_none_iff, hsome]
      simp only [decodeRow_error_iff, selects_rowCfgWrite, high_nibble_eq_zero_iff]
      simp only [← BitVec.toNat_inj, BitVec.toNat_ofNat]
      simp only [hop, Nat.reduceEqDiff, Nat.reduceLeDiff, false_and, false_or, true_and, or_false]
      omega
  case h_11 h1 h2 h3 h4 h5 h6 h7 h8 h9 h10 =>
    refine iff_of_true ⟨_, rfl⟩ ?_
    have hop : (opField w).toNat = 0 ∨ 11 ≤ (opField w).toNat := by
      generalize (opField w).toNat = n at *
      by_contra! h
      obtain ⟨hpos, hlt⟩ := h
      interval_cases n <;> contradiction
    exact hop.elim .inl fun h => .inr (.inl h)
  all_goals
    rename_i hop
    simp only [decodeRow_error_iff, selects_rowCfgRead, selects_rowGeomRead, selects_rowReadReg,
      selects_rowWriteReg, selects_rowReadMasked, selects_rowWriteMasked, selects_rowReadConv,
      ← BitVec.toNat_inj, BitVec.toNat_ofNat]
    simp only [hop, Nat.reduceEqDiff, Nat.reduceLeDiff, false_and, false_or, true_and, or_false]
    omega

/-! ### Disjoint rows, R58 -/

/-- The rows of the opcode table in its order. -/
def opcodeRows : List Row :=
  [rowCrc8, rowXor8, rowCfgWrite, rowCfgRead, rowGeomRead, rowReadReg, rowWriteReg, rowReadMasked,
    rowWriteMasked, rowReadConv]

/-- Every row asks for all four bits of `OP`. -/
theorem opField_of_selects {w : Word} {r : Row} (hr : opField r.mask = 0xF#4)
    (h : selects w r = true) : opField w = opField r.pattern := by
  have hop := ((selects_iff w r).1 h).1
  rwa [hr, nibble_and_ones] at hop

/-- Settles O4: the rows ask for different opcodes. -/
theorem opcodeRowsDisjoint : Obligations.OpcodeRowsDisjoint := by
  have hmask : ∀ r ∈ opcodeRows, opField r.mask = 0xF#4 := by decide
  have hdiff : opcodeRows.Pairwise fun r r' => opField r.pattern ≠ opField r'.pattern := by decide
  refine hdiff.imp_of_mem fun hr hr' hne w ⟨h, h'⟩ => hne ?_
  rw [← opField_of_selects (hmask _ hr) h, ← opField_of_selects (hmask _ hr') h']

/-- Settles O5: the decoder is run on each word. -/
theorem exampleWordsDecode : Obligations.ExampleWordsDecode := by
  unfold Obligations.ExampleWordsDecode
  decide

end Sys2Proof

/-! ## What one step can do to the block (`10_state.md`, `70_reset_and_hazards.md`)

The block left to itself, the requests without exchanges, reset, the requester's reads and offers,
and the proofs of O6 to O14, O57 and O58. -/

namespace Sys2Proof.Machine

open Sys2Proof.Claims

/-! ### The block left to itself -/

/-- The block left to itself stays as it is, or in BUSY goes on with the latched request from where
it waits. -/
theorem proceed_cases (s : State) :
    s.proceed = s ∨ ∃ l p, s.seq = .busy ∧ s.latched = some l ∧
      requestPlan s.params l.cfg l.request = some p ∧
      s.proceed = advance (p.after l.answers) s := by
  cases hseq : s.seq with
  | idle => exact .inl (by simp [State.proceed, hseq])
  | busy =>
    cases hl : s.latched with
    | none => exact .inl (by simp [State.proceed, State.resume, hseq, hl])
    | some l =>
      cases hp : requestPlan s.params l.cfg l.request with
      | none => exact .inl (by simp [State.proceed, State.resume, hseq, hl, hp])
      | some p =>
        exact .inr ⟨l, p, rfl, rfl, hp, by simp [State.proceed, State.resume, hseq, hl, hp]⟩

/-- How the block goes on does not depend on the requester's moves. -/
theorem proceed_with_moves (s : State) (ms : List Move) :
    ({ s with moves := ms } : State).proceed = { s.proceed with moves := ms } := by
  unfold State.proceed State.resume
  dsimp only
  split
  · rfl
  · split
    · rfl
    · split
      · rfl
      · exact advance_moves _ s ms

/-- The block left to itself leaves the parameters, `CFG` and `UNITS` alone. -/
theorem proceed_frame (s : State) :
    s.proceed.params = s.params ∧ s.proceed.cfg = s.cfg ∧ s.proceed.units = s.units := by
  obtain h | ⟨l, p, -, -, -, h⟩ := proceed_cases s
  · rw [h]; exact ⟨rfl, rfl, rfl⟩
  · obtain ⟨hparams, hcfg, hunits, -⟩ := advance_frame (p.after l.answers) s
    rw [h]; exact ⟨hparams, hcfg, hunits⟩

/-! ### Requests -/

/-- A rule with exchanges begins with one. -/
theorem requestPlan_exchange {p : Params} {c : Cfg} {i : Instr} {plan : Plan}
    (h : requestPlan p c i = some plan) : ∃ tx rest, plan = .exchange tx rest := by
  cases i <;> cases h <;> exact ⟨_, _, rfl⟩

/-- A request with exchanges is accepted, and the block goes on with it. -/
theorem exec_eq_proceed {i : Instr} {s : State} {p : Plan} (hidle : s.seq = .idle)
    (hplan : requestPlan s.params s.cfg i = some p) :
    exec i s = .next (s.accept i).proceed := by
  obtain ⟨tx, rest, rfl⟩ := requestPlan_exchange hplan
  simp [exec_plan hidle hplan, State.proceed, State.resume, hplan, Plan.after]

/-- A request without exchanges responds at once, with success or with ILLEGAL and no value,
whatever the response registers held; CFG_WRITE writes `CFG` and `UNITS` before it responds. -/
theorem exec_of_no_plan {i : Instr} {s : State} (hidle : s.seq = .idle)
    (hplan : requestPlan s.params s.cfg i = none) :
    (∃ st val, (st = statusOk ∨ st = illegal ∧ val = none) ∧
        ∀ r, exec i { s with resp := r } = .next (s.responded [] st val [])) ∨
      ∃ c, i = .cfgWrite c ∧
        ∀ r, exec i { s with resp := r } = .next ((s.setCfg c).responded [] statusOk none []) := by
  have hidle' (r : Resp) : ({ s with resp := r } : State).seq = .idle := hidle
  cases i <;> simp only [requestPlan, reduceCtorEq] at hplan <;>
    simp only [exec, execCrc8, execXor8, execCfgWrite, execCfgRead, execGeomRead,
      serve_idle (hidle' _), accept_params, accept_units]
  case crc8 =>
    split
    · exact .inl ⟨_, _, .inr ⟨rfl, rfl⟩, fun r => congrArg _ (accept_respond ..)⟩
    · exact .inl ⟨_, _, .inl rfl, fun r => congrArg _ (accept_respond ..)⟩
  case xor8 =>
    split
    · exact .inl ⟨_, _, .inr ⟨rfl, rfl⟩, fun r => congrArg _ (accept_respond ..)⟩
    · exact .inl ⟨_, _, .inl rfl, fun r => congrArg _ (accept_respond ..)⟩
  case cfgWrite => exact .inr ⟨_, rfl, fun r => congrArg _ (respond_eq_responded_nil ..)⟩
  case cfgRead => exact .inl ⟨_, _, .inl rfl, fun r => congrArg _ (accept_respond ..)⟩
  case geomRead => exact .inl ⟨_, _, .inl rfl, fun r => congrArg _ (accept_respond ..)⟩

/-- Everything `exec` can do: a busy block ignores the request; a request with exchanges is accepted
and run; any other responds at once. -/
theorem exec_cases {i : Instr} {s t : State} (h : exec i s = .next t) :
    s.seq = .busy ∧ t = s ∨
    s.seq = .idle ∧ (∃ p, requestPlan s.params s.cfg i = some p) ∧ t = (s.accept i).proceed ∨
    s.seq = .idle ∧ (∃ st val, (st = statusOk ∨ st = illegal ∧ val = none) ∧
      t = s.responded [] st val []) ∨
    s.seq = .idle ∧ ∃ c, i = .cfgWrite c ∧ t = (s.setCfg c).responded [] statusOk none [] := by
  cases hseq : s.seq with
  | busy =>
    rw [exec_busy i hseq, Host.Outcome.next.injEq] at h
    exact .inl ⟨rfl, h.symm⟩
  | idle =>
    cases hplan : requestPlan s.params s.cfg i with
    | some p =>
      rw [exec_eq_proceed hseq hplan, Host.Outcome.next.injEq] at h
      exact .inr (.inl ⟨rfl, ⟨p, rfl⟩, h.symm⟩)
    | none =>
      obtain ⟨st, val, hst, hexec⟩ | ⟨c, hc, hexec⟩ := exec_of_no_plan hseq hplan
      · have ht := Host.Outcome.next.inj (h.symm.trans (hexec s.resp))
        exact .inr (.inr (.inl ⟨rfl, st, val, hst, ht⟩))
      · have ht := Host.Outcome.next.inj (h.symm.trans (hexec s.resp))
        exact .inr (.inr (.inr ⟨rfl, c, hc, ht⟩))

/-- No request faults or is refused a meaning, R134. -/
theorem exec_total (i : Instr) (s : State) : ∃ t, exec i s = .next t := by
  cases i <;> exact ⟨_, rfl⟩

theorem exec_faults {i : Instr} {s t : State} (h : exec i s = .next t) : t.faults = s.faults := by
  obtain ⟨-, rfl⟩ | ⟨-, -, rfl⟩ | ⟨-, _, _, -, rfl⟩ | ⟨-, _, -, rfl⟩ := exec_cases h <;> simp

/-! ### Offers -/

theorem takeMove_eq {s : State} {m : Move} {ms : List Move} (h : s.moves = m :: ms) :
    s.takeMove = { s with moves := ms } := by simp [State.takeMove, h]

/-- Settles O6: the offer is decoded, and `exec` runs on the state with the move taken. -/
theorem stepRunsDecodedRequest : Obligations.StepRunsDecodedRequest := by
  intro s w d ms i hidle hmoves hdec
  simp [step, hmoves, hidle, hdec, takeMove_eq hmoves]

/-- Settles O7: a refusal is a response without an exchange. -/
theorem refusedRequestOnlyResponds : Obligations.RefusedRequestOnlyResponds := by
  intro s w d ms e hidle hlatched hmoves hdec
  refine ⟨Config.undefinedValue s.draws, ?_⟩
  simp [step, hmoves, hidle, hdec, takeMove_eq hmoves, State.respond, Resp.of, illegal, hlatched]

/-- Settles O8: how the block goes on does not depend on the moves, and leaves them alone. -/
theorem busyBlockLeavesOfferWaiting : Obligations.BusyBlockLeavesOfferWaiting := by
  refine ⟨fun s w d ms hbusy hmoves => ⟨s.proceed, ?_, ?_, proceed_moves s⟩,
    fun s ms hmoves => ⟨s.takeMove.proceed, ?_, ?_, ?_⟩⟩
  · simp [step, proceed_with_moves]
  · simp [step, hmoves, hbusy]
  · simp [step, proceed_with_moves, State.takeMove]
  · simp [step, hmoves]
  · simp [hmoves]

/-- Settles O9: with no move the block is left to itself, which in IDLE does nothing. -/
theorem idleBlockWaits : Obligations.IdleBlockWaits := by
  intro s hidle hmoves
  simp [step, hmoves, State.proceed, hidle]

/-! ### Reset -/

/-- `UNITS` is wide enough for `ceil(CONV_BYTES / 2)`, R23, R87. -/
theorem convUnits_toNat (c : Cfg) : (convUnits c).toNat = (convLength c + 1) / 2 := by
  obtain ⟨-, hmax⟩ := convLength_range c
  rw [convUnits, convBytes_eq_convLength, BitVec.toNat_ofNat]
  exact Nat.mod_eq_of_lt (by omega)

/-- Settles O10: a reset keeps every field it does not name. -/
theorem resetStepTakesResetValues : Obligations.ResetStepTakesResetValues := by
  intro s ms hmoves
  refine ⟨s.takeMove.resetBlock, by simp [step, hmoves], rfl, convUnits_toNat _, ?_⟩
  simp [hmoves, Resp.cleared]

/-- Settles O11: `State.reset` by its fields, with the width of `UNITS`. -/
theorem resetStateHoldsStatedValues : Obligations.ResetStateHoldsStatedValues :=
  ⟨rfl, convUnits_toNat _, rfl, rfl, rfl, rfl, rfl, rfl, rfl⟩

/-! ### Reads -/

theorem step_read {s : State} {o : Output} {ms : List Move} (h : s.moves = .read o :: ms) :
    step s = .next { s with moves := ms, faults := s.faults ++ (s.readFault o).toList } := by
  simp [step, h, takeMove_eq h, State.readMove, State.readFault]

/-- Settles O12: the fault each of the three reads records. -/
theorem readsOfUnsetResponseRecordFault : Obligations.ReadsOfUnsetResponseRecordFault := by
  refine fun s ms => ⟨fun hmoves h => ?_, fun hmoves h => ?_, fun hmoves h => ?_⟩ <;>
    simp [step_read hmoves, State.readFault, h]

/-- Settles O13: a read that holds a value has no fault to record. -/
theorem outputsReadTheState : Obligations.OutputsReadTheState := by
  refine fun s => ⟨rfl, rfl, rfl, rfl, rfl, ?_, rfl, fun o ms hmoves hwritten hvalid => ?_⟩
  · rw [State.readOutput, convBytes_eq_convLength]
  · have hnone : s.readFault o = none := by cases o <;> simp_all [State.readFault]
    simp [step_read hmoves, hnone]

/-- Only a read of `RESP.status`, `RESP.value` or `RESP.rx` has a fault. -/
theorem output_of_readFault {s : State} {o : Output} (h : s.readFault o ≠ none) :
    o = .respStatus ∨ o = .respValue ∨ o = .respRx := by
  cases o <;> simp_all [State.readFault]

/-! ### Every step -/

theorem step_total (s : State) : ∃ t, step s = .next t := by
  unfold step
  split
  case h_5 =>
    split
    · exact ⟨_, rfl⟩
    · split
      · exact exec_total _ _
      · exact ⟨_, rfl⟩
  all_goals exact ⟨_, rfl⟩

/-- A step records the fault of the read it takes, and no other fault. -/
theorem step_faults {s t : State} (h : step s = .next t) :
    t.faults = s.faults ∨
      ∃ o ms, s.moves = .read o :: ms ∧ t.faults = s.faults ++ (s.readFault o).toList := by
  obtain ⟨rfl, -⟩ | ⟨rfl, -⟩ | ⟨rfl, -⟩ | ⟨o, ms, hmoves, rfl⟩ |
    ⟨w, d, ms, -, -, ⟨i, -, hexec⟩ | ⟨e, -, rfl⟩⟩ := step_cases h
  · exact .inl (proceed_faults s)
  · exact .inl (proceed_faults s)
  · exact .inl rfl
  · exact .inr ⟨o, ms, hmoves, by simp⟩
  · exact .inl ((exec_faults hexec).trans (takeMove_faults s))
  · exact .inl rfl

/-- Settles O14: only a read adds to the recorded faults, and none is taken away. -/
theorem noStepStops : Obligations.NoStepStops := by
  intro s
  obtain ⟨t, ht⟩ := step_total s
  obtain hsame | ⟨o, ms, hmoves, hread⟩ := step_faults ht
  · refine ⟨t, [], ht, by simp [hsame], by simp, ?_, fun h => absurd rfl h⟩
    rintro hne ⟨-, -, hnone⟩
    exact hne (hsame ▸ hnone)
  · refine ⟨t, (s.readFault o).toList, ht, hread, Option.length_toList_le, ?_, fun hne => ?_⟩
    · rintro hne ⟨-, -, hnone⟩
      simp [hread, hne] at hnone
    · exact ⟨o, ms, hmoves, output_of_readFault (by simpa using hne)⟩

/-- A request changes `CFG` and `UNITS` only when it is a CFG_WRITE. -/
theorem exec_cfg {i : Instr} {s t : State} (h : exec i s = .next t) :
    t.cfg = s.cfg ∧ t.units = s.units ∨ ∃ c, i = .cfgWrite c ∧ t.cfg = c := by
  obtain ⟨-, rfl⟩ | ⟨-, -, rfl⟩ | ⟨-, _, _, -, rfl⟩ | ⟨-, c, rfl, rfl⟩ := exec_cases h
  · exact .inl ⟨rfl, rfl⟩
  · obtain ⟨-, hcfg, hunits⟩ := proceed_frame (s.accept i)
    exact .inl ⟨hcfg, hunits⟩
  · exact .inl ⟨rfl, rfl⟩
  · exact .inr ⟨c, rfl, rfl⟩

/-- Settles O57: of the cases of a step only a reset and an accepted CFG_WRITE write the two
registers. -/
theorem configurationChangesOnlyByCfgWriteOrReset :
    Obligations.ConfigurationChangesOnlyByCfgWriteOrReset := by
  intro s t ht hchange
  have hsame (h : t.cfg = s.cfg ∧ t.units = s.units) : False :=
    hchange.elim (· h.1) (· h.2)
  obtain ⟨-, hcfg, hunits⟩ := proceed_frame s
  obtain ⟨rfl, -⟩ | ⟨rfl, -⟩ | ⟨-, hreset⟩ | ⟨o, ms, -, rfl⟩ |
    ⟨w, d, ms, hidle, hmoves, ⟨i, hdec, hexec⟩ | ⟨e, -, rfl⟩⟩ := step_cases ht
  · exact (hsame ⟨hcfg, hunits⟩).elim
  · exact (hsame ⟨hcfg, hunits⟩).elim
  · exact .inl hreset
  · exact (hsame ⟨rfl, rfl⟩).elim
  · obtain h | ⟨c, rfl, hc⟩ := exec_cfg hexec
    · exact (hsame h).elim
    · exact .inr ⟨w, d, ms, c, hidle, hmoves, hdec, hc⟩
  · exact (hsame ⟨rfl, rfl⟩).elim

/-! ### How many exchanges a step adds -/

/-- Whatever comes back, the plan performs at most `n` exchanges. -/
def Plan.AtMost : Plan → Nat → Prop
  | .done _ _ _, _ => True
  | .exchange _ _, 0 => False
  | .exchange _ rest, n + 1 => ∀ a, (rest a).AtMost n

theorem Plan.AtMost.succ {p : Plan} {n : Nat} (h : p.AtMost n) : p.AtMost (n + 1) := by
  induction p generalizing n with
  | done => trivial
  | exchange tx rest ih =>
    cases n with
    | zero => exact h.elim
    | succ n => exact fun a => ih a (h a)

theorem Plan.AtMost.after {p : Plan} {n : Nat} (h : p.AtMost n) (as : List (Option Frame)) :
    (p.after as).AtMost n := by
  induction p generalizing n as with
  | done => trivial
  | exchange tx rest ih =>
    cases as with
    | nil => exact h
    | cons a as =>
      cases n with
      | zero => exact h.elim
      | succ n => exact (ih a (h a) as).succ

theorem Plan.AtMost.performed {p : Plan} {n : Nat} (h : p.AtMost n) (as : List (Option Frame)) :
    (p.performed as).length ≤ n := by
  induction p generalizing n as with
  | done => exact Nat.zero_le n
  | exchange tx rest ih =>
    cases as with
    | nil => exact Nat.zero_le n
    | cons a as =>
      cases n with
      | zero => exact h.elim
      | succ n => exact Nat.succ_le_succ (ih a (h a) as)

theorem requestPlan_atMost_two {p : Params} {c : Cfg} {i : Instr} {plan : Plan}
    (h : requestPlan p c i = some plan) : plan.AtMost 2 := by
  cases i <;> cases h
  case writeMasked =>
    rintro (_ | rx)
    · trivial
    · rintro (_ | _) <;> trivial
  all_goals rintro (_ | _) <;> trivial

/-- What going on with a request can add to the record of exchanges. -/
theorem proceed_bus (s : State) : ∃ es, es.length ≤ 2 ∧ s.proceed.bus = s.bus ++ es := by
  obtain h | ⟨l, p, hbusy, -, hplan, h⟩ := proceed_cases s
  · exact ⟨[], by simp, by simp [h]⟩
  · obtain ⟨as, hbus, -⟩ := advance_bus (p := p.after l.answers) hbusy
    exact ⟨_, ((requestPlan_atMost_two hplan).after _).performed as, by rw [h, hbus]⟩

theorem exec_params_bus {i : Instr} {s t : State} (h : exec i s = .next t) :
    t.params = s.params ∧ ∃ es, es.length ≤ 2 ∧ t.bus = s.bus ++ es := by
  obtain ⟨-, rfl⟩ | ⟨-, -, rfl⟩ | ⟨-, _, _, -, rfl⟩ | ⟨-, _, -, rfl⟩ := exec_cases h
  · exact ⟨rfl, [], by simp⟩
  · exact ⟨(proceed_frame (s.accept i)).1, proceed_bus (s.accept i)⟩
  · exact ⟨rfl, [], by simp⟩
  · exact ⟨rfl, [], by simp⟩

/-- Settles O58: a rule has at most two exchanges, so the rest of one has. -/
theorem parametersFixedAndBusGrows : Obligations.ParametersFixedAndBusGrows := by
  intro s t ht
  obtain ⟨rfl, -⟩ | ⟨rfl, -⟩ | ⟨rfl, -⟩ | ⟨o, ms, -, rfl⟩ |
    ⟨w, d, ms, -, -, ⟨i, -, hexec⟩ | ⟨e, -, rfl⟩⟩ := step_cases ht
  · exact ⟨(proceed_frame s).1, proceed_bus s⟩
  · exact ⟨(proceed_frame s).1, proceed_bus s⟩
  · exact ⟨rfl, [], by simp⟩
  · exact ⟨rfl, [], by simp⟩
  · simpa using exec_params_bus hexec
  · exact ⟨rfl, [], by simp⟩

end Sys2Proof.Machine

/-! ## The invariant of the block (`10_state.md` R23 to R30, `20_memory.md` R42)

Legal responses and plans, the answers of a waiting plan, the invariant through each operation of
the state, and the proofs of O59 and O60. -/

namespace Sys2Proof.Machine

open Sys2Proof.Claims

/-! ### Legal responses and legal plans -/

/-- The statuses of a response other than ILLEGAL, R64. -/
theorem status_of_check (fails failed : Bool) :
    (checkStatus fails ||| if failed then transportErr else statusOk) ∈
      [0b000#3, 0b001#3, 0b010#3, 0b011#3] := by
  cases fails <;> cases failed <;> decide

/-- A response with one of the four statuses and at most 6 bytes is legal. -/
theorem Resp.of_legal {st : BitVec 3} {rx : Frame}
    (hst : st ∈ [0b000#3, 0b001#3, 0b010#3, 0b011#3]) (hrx : rx.length ≤ 6) (val : Option Byte)
    (n : Nat) : (Resp.of st val rx n).Legal where
  valid_after_response _ := rfl
  cleared_before_response h := by cases h
  status_reachable := List.mem_append_left [0b100#3] hst
  rx_short := hrx
  illegal_alone h := by
    have hne : st ≠ 0b100#3 := by rintro rfl; revert hst; decide
    exact absurd h hne

theorem Resp.of_illegal_legal (n : Nat) : (Resp.of illegal none [] n).Legal where
  valid_after_response h := by cases h
  cleared_before_response h := by cases h
  status_reachable := by simp [illegal]
  rx_short := Nat.zero_le 6
  illegal_alone _ := ⟨rfl, rfl⟩

/-- What reset leaves in the response registers is legal (log 5). -/
theorem Resp.cleared_legal : Resp.cleared.Legal where
  valid_after_response h := by cases h
  cleared_before_response _ := rfl
  status_reachable := by simp [Resp.cleared]
  rx_short := Nat.zero_le 6
  illegal_alone _ := ⟨rfl, rfl⟩

/-- The frames that `Exchange.Legal` admits. -/
def LegalFrame (tx : Frame) : Prop :=
  (2 ≤ tx.length ∧ tx.length ≤ 6) ∧ (tx.headD 0xFF#8).msb = false

/-- An answer that fits the frame sent: a failure, or bytes of its length, R14. -/
def FitsFrame (tx : Frame) (a : Option Frame) : Prop := ∀ rx, a = some rx → rx.length = tx.length

/-- Whatever fitting answers come back, the plan sends legal frames and ends with a legal
response. -/
def Plan.Legal : Plan → Prop
  | .done st val rx => ∀ n, (Resp.of st val rx n).Legal
  | .exchange tx rest => LegalFrame tx ∧ ∀ a, FitsFrame tx a → (rest a).Legal

theorem Plan.Legal.after {p : Plan} {as : List (Option Frame)} (h : p.Legal) (hfits : p.fits as) :
    (p.after as).Legal := by
  induction p generalizing as with
  | done => exact h
  | exchange tx rest ih =>
    cases as with
    | nil => exact h
    | cons a as => exact ih a (h.2 a hfits.1) hfits.2

theorem Plan.Legal.performed {p : Plan} {as : List (Option Frame)} (h : p.Legal)
    (hfits : p.fits as) : ∀ e ∈ p.performed as, e.Legal := by
  induction p generalizing as with
  | done => simp [Plan.performed]
  | exchange tx rest ih =>
    cases as with
    | nil => simp [Plan.performed]
    | cons a as =>
      obtain ⟨⟨hlen, hmsb⟩, hrest⟩ := h
      obtain ⟨hfirst, hfits⟩ := hfits
      intro e he
      obtain rfl | he := List.mem_cons.1 he
      · exact ⟨hlen, hmsb, hfirst⟩
      · exact ih a (hrest a hfirst) hfits e he

/-! ### The plans of the requests are legal -/

theorem regLength_range (c : Cfg) : 2 ≤ regLength c ∧ regLength c ≤ 6 := by
  unfold regLength
  split <;> omega

/-- Bit 7 of a command byte is 0, R61. -/
theorem readCommand_msb (addr : RegAddr) : (readCommand addr).msb = false := by
  simp only [readCommand, BitVec.msb_append]
  rfl

theorem writeCommand_msb (addr : RegAddr) : (writeCommand addr).msb = false := by
  simp only [writeCommand, BitVec.msb_append]
  rfl

theorem readFrame_legal (c : Cfg) (addr : RegAddr) : LegalFrame (readFrame c.cm addr) := by
  refine ⟨readFrame_length c addr ▸ regLength_range c, ?_⟩
  cases c.cm <;> exact readCommand_msb addr

theorem writeFrame_legal (poly : Byte) (c : Cfg) (addr : RegAddr) (v : Byte) :
    LegalFrame (writeFrame poly c.cm addr v) := by
  refine ⟨writeFrame_length poly c addr v ▸ regLength_range c, ?_⟩
  cases c.cm <;> exact writeCommand_msb addr

theorem convFrame_legal (p : Params) (c : Cfg) : LegalFrame (convFrame p.adcDataAddr c) := by
  obtain ⟨hmin, hmax⟩ := convLength_range c
  refine ⟨?_, readCommand_msb p.adcDataAddr⟩
  rw [convFrame_eq_convTx, convTx_length]
  omega

/-- A register read with a legal way on is legal. -/
theorem regRead_legal {p : Params} {c : Cfg} {addr : RegAddr} {k : ReadResult → Plan}
    (hfail : (k { status := transportErr, value := none, rx := [] }).Legal)
    (hread : ∀ fails val rx, rx.length ≤ 6 →
      (k { status := checkStatus fails, value := some val, rx := rx }).Legal) :
    (regRead p c.cm addr k).Legal := by
  refine ⟨readFrame_legal c addr, fun a hfits => ?_⟩
  cases a with
  | none => exact hfail
  | some rx => exact hread _ _ _ (hfits rx rfl ▸ (readFrame_legal c addr).1.2)

/-- A register write with a legal way on is legal. -/
theorem regWrite_legal {p : Params} {c : Cfg} {addr : RegAddr} {v : Byte} {k : BitVec 3 → Plan}
    (h : ∀ failed : Bool, (k (if failed then transportErr else statusOk)).Legal) :
    (regWrite p c.cm addr v k).Legal := by
  refine ⟨writeFrame_legal p.crc8Poly c addr v, fun a _ => ?_⟩
  cases a with
  | none => exact h true
  | some rx => exact h false

theorem requestPlan_legal {p : Params} {c : Cfg} {i : Instr} {plan : Plan}
    (h : requestPlan p c i = some plan) : plan.Legal := by
  have hfailed : ∀ n, (Resp.of transportErr none [] n).Legal :=
    Resp.of_legal (rx := []) (status_of_check false true) (by decide) none
  have hchecked (fails : Bool) (val : Option Byte) {rx : Frame} (hrx : rx.length ≤ 6) :
      ∀ n, (Resp.of (checkStatus fails) val rx n).Legal := by
    have hst := status_of_check fails false
    rw [if_neg Bool.false_ne_true, statusOk, BitVec.or_zero] at hst
    exact Resp.of_legal hst hrx val
  cases i <;> cases h
  case readReg => exact regRead_legal hfailed fun fails val rx hrx => hchecked fails _ hrx
  case readMasked => exact regRead_legal hfailed fun fails val rx hrx => hchecked fails _ hrx
  case writeReg =>
    refine regWrite_legal fun failed => ?_
    cases failed
    · exact hchecked false none (Nat.zero_le 6)
    · exact hfailed
  case writeMasked =>
    exact regRead_legal hfailed fun fails val rx hrx => regWrite_legal fun failed =>
      Resp.of_legal (status_of_check fails failed) hrx _
  case readConv =>
    refine ⟨convFrame_legal p c, fun a hfits => ?_⟩
    cases a with
    | none => exact hfailed
    | some rx => exact hchecked _ _ (hfits rx rfl ▸ (convFrame_legal p c).1.2)

/-! ### The answers of a waiting plan -/

theorem Plan.fits_of_waitsAfter {p : Plan} {as : List (Option Frame)} (h : p.waitsAfter as) :
    p.fits as := by
  induction p generalizing as with
  | done => exact h.elim
  | exchange tx rest ih =>
    cases as with
    | nil => trivial
    | cons a as => exact ⟨h.1, ih a h.2⟩

theorem Plan.waitsAfter_of_fits {p : Plan} {as : List (Option Frame)} {tx : Frame}
    {rest : Option Frame → Plan} (hfits : p.fits as) (hafter : p.after as = .exchange tx rest) :
    p.waitsAfter as := by
  induction p generalizing as with
  | done => cases hafter
  | exchange tx rest ih =>
    cases as with
    | nil => trivial
    | cons a as => exact ⟨hfits.1, ih a hfits.2 hafter⟩

/-- A plan that waits, and goes on from there to wait again, waits after all those answers. -/
theorem Plan.waitsAfter_append {p : Plan} {as bs : List (Option Frame)} (h : p.waitsAfter as)
    (hbs : (p.after as).waitsAfter bs) : p.waitsAfter (as ++ bs) := by
  induction p generalizing as with
  | done => exact h.elim
  | exchange tx rest ih =>
    cases as with
    | nil => exact hbs
    | cons a as => exact ⟨h.1, ih a h.2 hbs⟩

/-! ### The operations of the state keep the invariant -/

theorem latchLegal_of_idle {s : State} (hseq : s.seq = .idle) (hlatched : s.latched = none) :
    s.LatchLegal := by
  simpa [State.LatchLegal, hseq] using hlatched

/-- In BUSY a request waits at one of its exchanges, with a snapshot equal to `CFG`. -/
theorem latchLegal_busy_iff {s : State} (hseq : s.seq = .busy) :
    s.LatchLegal ↔ ∃ l p, s.latched = some l ∧ l.cfg = s.cfg ∧
      requestPlan s.params l.cfg l.request = some p ∧ p.waitsAfter l.answers := by
  simp [State.LatchLegal, hseq]

/-- What a response leaves meets the invariant when the response is legal and the exchanges before
it are. -/
theorem State.Inv.responded {s : State} (h : s.Inv) {es : List Exchange} {st : BitVec 3}
    {val : Option Byte} {rx : Frame} (hes : ∀ e ∈ es, e.Legal)
    (hresp : ∀ n, (Resp.of st val rx n).Legal) : (s.responded es st val rx).Inv where
  units_fresh := h.units_fresh
  resp_legal := hresp s.draws
  latch_legal := latchLegal_of_idle rfl rfl
  bus_legal := by
    rw [responded_bus]
    exact List.forall_mem_append.2 ⟨h.bus_legal, hes⟩

theorem State.Inv.setCfg {s : State} (h : s.Inv) (hidle : s.seq = .idle) (c : Cfg) :
    (s.setCfg c).Inv where
  units_fresh := by rw [setCfg_units, setCfg_cfg, convUnits_toNat, convBytes_eq_convLength]
  resp_legal := h.resp_legal
  latch_legal := by
    have hlatch := h.latch_legal
    simp only [State.LatchLegal, hidle] at hlatch
    exact latchLegal_of_idle hidle hlatch
  bus_legal := h.bus_legal

theorem State.Inv.resetBlock {s : State} (h : s.Inv) : s.resetBlock.Inv where
  units_fresh := by
    rw [resetBlock_units, resetBlock_cfg, convUnits_toNat, convBytes_eq_convLength]
  resp_legal := Resp.cleared_legal
  latch_legal := latchLegal_of_idle rfl rfl
  bus_legal := h.bus_legal

/-- The invariant says nothing of the requester's moves, the recorded faults or the sequence of
answers to come. -/
theorem State.Inv.takeMove {s : State} (h : s.Inv) : s.takeMove.Inv :=
  ⟨h.units_fresh, h.resp_legal, h.latch_legal, h.bus_legal⟩

theorem State.Inv.readMove {s : State} (h : s.Inv) (o : Output) : (s.readMove o).Inv :=
  ⟨h.units_fresh, h.resp_legal, h.latch_legal, h.bus_legal⟩

/-- An accepted request with exchanges waits at its first exchange. -/
theorem State.Inv.accept {s : State} (h : s.Inv) {i : Instr} {p : Plan}
    (hplan : requestPlan s.params s.cfg i = some p) : (s.accept i).Inv where
  units_fresh := h.units_fresh
  resp_legal := h.resp_legal
  latch_legal := by
    obtain ⟨tx, rest, rfl⟩ := requestPlan_exchange hplan
    exact (latchLegal_busy_iff rfl).2 ⟨_, _, rfl, rfl, hplan, trivial⟩
  bus_legal := h.bus_legal

/-- Going on with a waiting request ends it with a legal response or lets it wait at a later
exchange of its plan. -/
theorem State.Inv.proceed {s : State} (h : s.Inv) : s.proceed.Inv := by
  obtain hsame | ⟨l, p, hbusy, hl, hplan, hproceed⟩ := proceed_cases s
  · rwa [hsame]
  obtain ⟨l', p', hl', hcfg, hplan', hwaits⟩ := (latchLegal_busy_iff hbusy).1 h.latch_legal
  obtain rfl : l = l' := Option.some.inj (hl.symm.trans hl')
  obtain rfl : p = p' := Option.some.inj (hplan.symm.trans hplan')
  have hlegal : (p.after l.answers).Legal :=
    (requestPlan_legal hplan).after (Plan.fits_of_waitsAfter hwaits)
  obtain ⟨as, hfits, ⟨st, val, rx, hdone, -, hadv⟩ | ⟨tx, rest, hafter, hadv⟩⟩ :=
    advance_cases (p.after l.answers) s
  · have hend := hlegal.after hfits
    rw [hdone] at hend
    rw [hproceed, hadv]
    exact h.responded (hlegal.performed hfits) hend
  · rw [hproceed, hadv]
    have hwaiting : (s.waiting ((p.after l.answers).performed as) as).seq = .busy := hbusy
    refine ⟨h.units_fresh, h.resp_legal, (latchLegal_busy_iff hwaiting).2 ?_, ?_⟩
    · exact ⟨{ l with answers := l.answers ++ as }, p, by simp [State.waiting, hl], hcfg, hplan,
        Plan.waitsAfter_append hwaits (Plan.waitsAfter_of_fits hfits hafter)⟩
    · exact List.forall_mem_append.2 ⟨h.bus_legal, hlegal.performed hfits⟩

theorem State.Inv.refuse {s : State} (h : s.Inv) : s.refuse.Inv := by
  rw [refuse_eq, respond_eq_responded_nil]
  exact h.responded (by simp) Resp.of_illegal_legal

theorem State.Inv.exec {s t : State} {i : Instr} (h : s.Inv) (ht : exec i s = .next t) : t.Inv := by
  have hok (val : Option Byte) : ∀ n, (Resp.of statusOk val [] n).Legal :=
    Resp.of_legal (rx := []) (status_of_check false false) (by decide) val
  obtain ⟨-, rfl⟩ | ⟨-, ⟨p, hplan⟩, rfl⟩ | ⟨-, st, val, hst, rfl⟩ | ⟨hidle, c, -, rfl⟩ :=
    exec_cases ht
  · exact h
  · exact (h.accept hplan).proceed
  · obtain rfl | ⟨rfl, rfl⟩ := hst
    · exact h.responded (by simp) (hok val)
    · exact h.responded (by simp) Resp.of_illegal_legal
  · exact (h.setCfg hidle c).responded (by simp) (hok none)

/-- Settles O59: each clause by the reset values, log 5 for the response registers. -/
theorem resetMeetsInvariant : Obligations.ResetMeetsInvariant where
  units_fresh := by rw [convBytes_eq_convLength]; exact convUnits_toNat _
  resp_legal := Resp.cleared_legal
  latch_legal := latchLegal_of_idle rfl rfl
  bus_legal := by simp [State.reset]

/-- Settles O60: each case of a step is made of operations that keep the invariant. -/
theorem stepKeepsInvariant : Obligations.StepKeepsInvariant := by
  intro s t h ht
  obtain ⟨rfl, -⟩ | ⟨rfl, -⟩ | ⟨rfl, -⟩ | ⟨o, ms, -, rfl⟩ |
    ⟨w, d, ms, -, -, ⟨i, -, hexec⟩ | ⟨e, -, rfl⟩⟩ := step_cases ht
  · exact h.proceed
  · exact h.proceed.takeMove
  · exact h.takeMove.resetBlock
  · exact h.takeMove.readMove o
  · exact h.takeMove.exec hexec
  · exact h.takeMove.refuse

end Sys2Proof.Machine

/-! ## The algebra of the checksums (`40_checksum.md` R80 to R83)

Chaining, linearity, the polynomial form of the CRC-8 and what follows from it, the running XOR, and
the proofs of O16 to O21. -/

namespace Sys2Proof.Machine

open Sys2Proof.Claims

/-! ### Chaining -/

/-- Over a whole sequence the CRC takes in every byte. -/
theorem crc8_length (poly : Byte) (s : Frame) (seed : Byte) :
    crc8 poly s s.length seed = s.foldl (crc8Byte poly) seed := by
  rw [crc8, List.take_length]

/-- Settles O16: both sides fold over the bytes of `s` and then over those of `t`. -/
theorem crc8Chains : Obligations.Crc8Chains := by
  intro poly s t seed
  rw [← List.length_append, crc8_length, crc8_length, crc8_length, List.foldl_append]

/-! ### Linearity -/

/-- A step that is linear in accumulator and input is linear over a whole sequence. -/
theorem foldl_zipWith_xor {δ : Type} {f : Byte → δ → Byte} {op : δ → δ → δ}
    (hf : ∀ c c' d d', f (c ^^^ c') (op d d') = f c d ^^^ f c' d') {a b : List δ}
    (hlen : a.length = b.length) (c c' : Byte) :
    (List.zipWith op a b).foldl f (c ^^^ c') = a.foldl f c ^^^ b.foldl f c' := by
  induction a generalizing b c c' with
  | nil =>
    obtain rfl := List.length_eq_zero_iff.1 hlen.symm
    rfl
  | cons d a ih =>
    obtain ⟨d', b, rfl⟩ := List.exists_cons_of_length_eq_add_one hlen.symm
    simp only [List.zipWith_cons_cons, List.foldl_cons, hf]
    exact ih (Nat.succ.inj hlen) _ _

/-- The step of one bit: shift, then the polynomial when the old top bit differs from the data
bit. -/
theorem crc8Bit_eq_xor (poly c : Byte) (d : Bool) :
    crc8Bit poly c d = (c <<< 1) ^^^ if c.msb ^^ d then poly else 0x00#8 := by
  unfold crc8Bit
  cases c.msb <;> cases d <;> simp

theorem crc8Bit_xor (poly c c' : Byte) (d d' : Bool) :
    crc8Bit poly (c ^^^ c') (d ^^ d') = crc8Bit poly c d ^^^ crc8Bit poly c' d' := by
  have hpoly : (if (c ^^^ c').msb ^^ (d ^^ d') then poly else 0x00#8) =
      (if c.msb ^^ d then poly else 0x00#8) ^^^ if c'.msb ^^ d' then poly else 0x00#8 := by
    rw [BitVec.msb_xor]
    cases c.msb <;> cases d <;> cases c'.msb <;> cases d' <;> simp
  rw [crc8Bit_eq_xor, crc8Bit_eq_xor, crc8Bit_eq_xor, hpoly, BitVec.shiftLeft_xor_distrib]
  ac_rfl

theorem crc8Byte_xor (poly c c' b b' : Byte) :
    crc8Byte poly (c ^^^ c') (b ^^^ b') = crc8Byte poly c b ^^^ crc8Byte poly c' b' := by
  have hbits : bitsMsbFirst (b ^^^ b') =
      List.zipWith (· ^^ ·) (bitsMsbFirst b) (bitsMsbFirst b') := by simp [bitsMsbFirst]
  rw [crc8Byte, hbits]
  exact foldl_zipWith_xor (op := (· ^^ ·)) (crc8Bit_xor poly) (by simp [bitsMsbFirst]) c c'

/-- Settles O17: linearity of one bit, over the bits of a byte and then over the bytes. -/
theorem crc8IsLinear : Obligations.Crc8IsLinear := by
  intro poly a b n sa sb hlen _
  rw [crc8, List.take_zipWith]
  exact foldl_zipWith_xor (crc8Byte_xor poly) (by simp [hlen]) sa sb

/-! ### Polynomials over GF(2) -/

/-- The coefficients of a byte's polynomial are its bits. -/
theorem coeff_bytePoly (b : Byte) (i : Nat) :
    (bytePoly b).coeff i = if b.getLsbD i then 1 else 0 := by
  have hterm (k : Nat) :
      (if b.getLsbD k then (Polynomial.X : Polynomial (ZMod 2)) ^ k else 0).coeff i =
        if i = k then (if b.getLsbD k then 1 else 0) else 0 := by
    split <;> simp [Polynomial.coeff_X_pow]
  simp only [bytePoly, Polynomial.finsetSum_coeff, hterm, Finset.sum_ite_eq, Finset.mem_range]
  split
  · rfl
  · rw [BitVec.getLsbD_of_ge b i (by omega), if_neg Bool.false_ne_true]

theorem bytePoly_injective : Function.Injective bytePoly := by
  intro b b' h
  refine BitVec.eq_of_getLsbD_eq fun i _ => ?_
  have hcoeff := congrArg (·.coeff i) h
  simp only [coeff_bytePoly] at hcoeff
  cases hb : b.getLsbD i <;> cases hb' : b'.getLsbD i <;> simp_all

theorem bytePoly_zero : bytePoly 0x00#8 = 0 := by simp [bytePoly]

theorem degree_bytePoly_lt (b : Byte) : (bytePoly b).degree < 8 := by
  refine (Polynomial.degree_lt_iff_coeff_zero _ 8).2 fun i hi => ?_
  rw [coeff_bytePoly, BitVec.getLsbD_of_ge b i hi, if_neg Bool.false_ne_true]

theorem bytePoly_xor (b b' : Byte) : bytePoly (b ^^^ b') = bytePoly b + bytePoly b' := by
  ext i
  rw [Polynomial.coeff_add, coeff_bytePoly, coeff_bytePoly, coeff_bytePoly, BitVec.getLsbD_xor]
  cases b.getLsbD i <;> cases b'.getLsbD i <;> decide

/-- A byte with one bit set is a power of `x`. -/
theorem bytePoly_one_shiftLeft {i : Nat} (hi : i < 8) :
    bytePoly (0x01#8 <<< i) = Polynomial.X ^ i := by
  interval_cases i <;> simp [bytePoly, Finset.sum_range_succ]

/-- The bit `d` as a constant polynomial. -/
noncomputable def bitPoly (d : Bool) : Polynomial (ZMod 2) := if d then 1 else 0

@[simp] theorem bitPoly_false : bitPoly false = 0 := rfl

theorem bitPoly_xor (d d' : Bool) : bitPoly (d ^^ d') = bitPoly d + bitPoly d' := by
  have htwo : (1 : Polynomial (ZMod 2)) + 1 = 0 := CharTwo.add_self_eq_zero 1
  cases d <;> cases d' <;> simp [bitPoly, htwo]

/-- A byte's polynomial, written out over its bits. -/
theorem bytePoly_eq_sum (b : Byte) :
    bytePoly b = ∑ i ∈ Finset.range 8, bitPoly (b.getLsbD i) * Polynomial.X ^ i := by
  refine Finset.sum_congr rfl fun i _ => ?_
  cases b.getLsbD i <;> simp [bitPoly]

/-- Shifting a byte left multiplies its polynomial by `x` and drops the old top bit. -/
theorem bytePoly_shiftLeft (c : Byte) :
    bytePoly (c <<< 1) + bitPoly c.msb * Polynomial.X ^ 8 = Polynomial.X * bytePoly c := by
  rw [BitVec.msb_eq_getLsbD_last, bytePoly_eq_sum, bytePoly_eq_sum]
  simp [Finset.sum_range_succ]
  ring

/-! ### The CRC-8 as a remainder -/

/-- The divisor `x^8 + P(x)` of a polynomial constant. -/
noncomputable def divisor (poly : Byte) : Polynomial (ZMod 2) := Polynomial.X ^ 8 + bytePoly poly

theorem divisor_monic (poly : Byte) : (divisor poly).Monic :=
  Polynomial.monic_X_pow_add (degree_bytePoly_lt poly)

theorem degree_divisor (poly : Byte) : (divisor poly).degree = 8 := by
  rw [divisor, Polynomial.degree_add_eq_left_of_degree_lt] <;> rw [Polynomial.degree_X_pow]
  · rfl
  · exact degree_bytePoly_lt poly

/-- A byte is its own remainder. -/
theorem bytePoly_modByMonic (poly b : Byte) : bytePoly b %ₘ divisor poly = bytePoly b := by
  rw [Polynomial.modByMonic_eq_self_iff (divisor_monic poly), degree_divisor]
  exact degree_bytePoly_lt b

/-- One bit, modulo the divisor: the accumulator times `x`, plus the data bit times `x^8`. -/
theorem mk_crc8Bit (poly c : Byte) (d : Bool) :
    AdjoinRoot.mk (divisor poly) (bytePoly (crc8Bit poly c d)) =
      AdjoinRoot.mk (divisor poly)
        (Polynomial.X * bytePoly c + bitPoly d * Polynomial.X ^ 8) := by
  have hpoly : bytePoly (if c.msb ^^ d then poly else 0x00#8) =
      (bitPoly c.msb + bitPoly d) * bytePoly poly := by
    rw [← bitPoly_xor]
    cases c.msb ^^ d <;> simp [bitPoly, bytePoly_zero]
  rw [AdjoinRoot.mk_eq_mk, crc8Bit_eq_xor, bytePoly_xor, hpoly, ← bytePoly_shiftLeft, divisor]
  have hchar : bitPoly c.msb + bitPoly c.msb = 0 := CharTwo.add_self_eq_zero _
  have hchar' : bitPoly d + bitPoly d = 0 := CharTwo.add_self_eq_zero _
  refine ⟨bitPoly c.msb + bitPoly d, ?_⟩
  linear_combination (-Polynomial.X ^ 8) * hchar + (-Polynomial.X ^ 8) * hchar'

/-- One byte, modulo the divisor: the sum of accumulator and data byte times `x^8`. -/
theorem mk_crc8Byte (poly c b : Byte) :
    AdjoinRoot.mk (divisor poly) (bytePoly (crc8Byte poly c b)) =
      AdjoinRoot.mk (divisor poly) ((bytePoly c + bytePoly b) * Polynomial.X ^ 8) := by
  rw [crc8Byte_eq_foldl, bytePoly_eq_sum b]
  simp only [List.foldl_cons, List.foldl_nil, mk_crc8Bit, map_add, map_mul, map_pow,
    map_zero, Finset.sum_range_succ, Finset.sum_range_zero]
  ring

theorem framePoly_append_singleton (s : Frame) (b : Byte) :
    framePoly (s ++ [b]) = framePoly s * Polynomial.X ^ 8 + bytePoly b := by
  simp [framePoly]

/-- `n` bytes, modulo the divisor. -/
theorem mk_crc8 (poly : Byte) (s : Frame) {n : Nat} (seed : Byte) (hn : n ≤ s.length) :
    AdjoinRoot.mk (divisor poly) (bytePoly (crc8 poly s n seed)) =
      AdjoinRoot.mk (divisor poly) (bytePoly seed * Polynomial.X ^ (8 * n) +
        framePoly (s.take n) * Polynomial.X ^ 8) := by
  induction n with
  | zero => simp [framePoly]
  | succ n ih =>
    rw [crc8_succ poly s seed hn, mk_crc8Byte, List.take_succ_eq_append_getElem hn,
      framePoly_append_singleton, map_mul, map_add, ih (Nat.le_of_succ_le hn)]
    simp only [map_add, map_mul, map_pow]
    ring

/-- Settles O18: both sides agree modulo the divisor, and a byte is its own remainder. -/
theorem crc8IsRemainder : Obligations.Crc8IsRemainder := by
  intro poly s n seed hn
  change _ = _ %ₘ divisor poly
  rw [← bytePoly_modByMonic poly]
  exact Polynomial.modByMonic_eq_of_dvd_sub (divisor_monic poly)
    (AdjoinRoot.mk_eq_mk.1 (mk_crc8 poly s seed hn))

/-! ### Corner values -/

/-- A byte taken into itself gives 0: its multiple of `x^8` is added to itself. -/
theorem crc8Byte_self (poly c : Byte) : crc8Byte poly c c = 0x00#8 := by
  have hmk := mk_crc8Byte poly c c
  rw [CharTwo.add_self_eq_zero, zero_mul, AdjoinRoot.mk_eq_mk] at hmk
  have hrem := Polynomial.modByMonic_eq_of_dvd_sub (divisor_monic poly) hmk
  rw [bytePoly_modByMonic, Polynomial.zero_modByMonic, ← bytePoly_zero] at hrem
  exact bytePoly_injective hrem

theorem crc8Byte_one (poly : Byte) : crc8Byte poly 0x00#8 0x01#8 = poly := by
  simp [crc8Byte, bitsMsbFirst, crc8Bit]

/-- Settles O19: the CRC of zeros and of a message with its own CRC by `crc8Byte_self`. -/
theorem crc8CornerValues : Obligations.Crc8CornerValues := by
  refine fun poly s n seed => ⟨crc8_zero poly s seed, ?zeros, ?own, ?one⟩
  case zeros =>
    rw [crc8, List.take_replicate, Nat.min_self]
    induction n with
    | zero => rfl
    | succ n ih => rw [List.replicate_succ, List.foldl_cons, crc8Byte_self, ih]
  case own =>
    rw [crc8_succ _ _ _ (by simp)]
    simp [crc8, crc8Byte_self]
  case one => simp [crc8, crc8Byte_one]

/-! ### Single-bit sensitivity, R80 -/

/-- What was read before counts `x^8` for each byte after it. -/
theorem foldl_framePoly_add (s : Frame) (p q : Polynomial (ZMod 2)) :
    s.foldl (fun p b => p * Polynomial.X ^ 8 + bytePoly b) (p + q) =
      s.foldl (fun p b => p * Polynomial.X ^ 8 + bytePoly b) p +
        q * Polynomial.X ^ (8 * s.length) := by
  induction s generalizing p q with
  | nil => simp
  | cons b s ih =>
    rw [List.foldl_cons, List.foldl_cons, List.length_cons, add_mul, add_right_comm, ih]
    ring

/-- Flipping one bit adds a power of `x`. -/
theorem framePoly_flip (s : Frame) {j i : Nat} (hj : j < s.length) (hi : i < 8) :
    ∃ k, framePoly (s.modify j fun b => b ^^^ (0x01#8 <<< i)) =
      framePoly s + Polynomial.X ^ k := by
  refine ⟨i + 8 * (s.length - 1 - j), ?_⟩
  unfold framePoly
  generalize (0 : Polynomial (ZMod 2)) = p
  induction s generalizing p j with
  | nil => cases hj
  | cons b s ih =>
    cases j with
    | zero =>
      rw [List.modify_zero_cons, List.foldl_cons, List.foldl_cons, bytePoly_xor, ← add_assoc,
        foldl_framePoly_add, bytePoly_one_shiftLeft hi, pow_add]
      simp
    | succ j =>
      rw [List.modify_succ_cons, List.foldl_cons, List.foldl_cons,
        ih (Nat.lt_of_succ_lt_succ hj), List.length_cons,
        show s.length - 1 - j = s.length + 1 - 1 - (j + 1) by omega]

/-- The divisor divides a power of `x` only when the polynomial constant is 0. -/
theorem eq_zero_of_divisor_dvd {poly : Byte} {k : Nat}
    (h : divisor poly ∣ (Polynomial.X ^ k : Polynomial (ZMod 2))) : poly = 0x00#8 := by
  obtain ⟨i, -, hassoc⟩ := (dvd_prime_pow Polynomial.prime_X k).1 h
  have heq : divisor poly = Polynomial.X ^ i :=
    Polynomial.eq_of_monic_of_associated (divisor_monic poly) (Polynomial.monic_X_pow i) hassoc
  have hdeg := degree_divisor poly
  rw [heq, Polynomial.degree_X_pow] at hdeg
  obtain rfl : i = 8 := by exact_mod_cast hdeg
  refine bytePoly_injective ?_
  rw [bytePoly_zero]
  exact add_eq_left.1 heq

/-- With another polynomial constant a flip of one bit changes the result: otherwise the divisor
divides the power of `x` that the flip adds. -/
theorem crc8_flip_ne {poly : Byte} (hpoly : poly ≠ 0x00#8) {s : Frame} {n j i : Nat} (seed : Byte)
    (hn : n ≤ s.length) (hj : j < n) (hi : i < 8) :
    crc8 poly (s.modify j fun b => b ^^^ (0x01#8 <<< i)) n seed ≠ crc8 poly s n seed := by
  intro heq
  have hmk := congrArg (fun b => AdjoinRoot.mk (divisor poly) (bytePoly b)) heq
  obtain ⟨k, hk⟩ := framePoly_flip (s.take n) (by simpa [hn] using hj) hi
  have htake : (s.modify j fun b => b ^^^ (0x01#8 <<< i)).take n =
      (s.take n).modify j fun b => b ^^^ (0x01#8 <<< i) := by
    refine List.ext_getElem? fun k => ?_
    rw [List.getElem?_take, List.getElem?_modify, List.getElem?_modify, List.getElem?_take]
    split <;> rfl
  simp only [mk_crc8 poly _ seed hn, mk_crc8 poly _ seed ((List.length_modify ..).symm ▸ hn),
    htake, hk, AdjoinRoot.mk_eq_mk] at hmk
  refine hpoly (eq_zero_of_divisor_dvd (k := k + 8) ?_)
  convert hmk using 1
  ring

/-- With the polynomial constant 0 a byte shifts everything out. -/
theorem crc8Byte_zero_poly (c b : Byte) : crc8Byte 0x00#8 c b = 0x00#8 := by
  have hbit (c : Byte) (d : Bool) : crc8Bit 0x00#8 c d = c <<< 1 := by simp [crc8Bit]
  simp only [crc8Byte_eq_foldl, List.foldl_cons, List.foldl_nil, hbit, ← BitVec.shiftLeft_add]
  exact BitVec.shiftLeft_eq_zero (by decide)

theorem crc8_zero_poly (s : Frame) {n : Nat} (seed : Byte) (hpos : 1 ≤ n) (hn : n ≤ s.length) :
    crc8 0x00#8 s n seed = 0x00#8 := by
  obtain ⟨n, rfl⟩ := Nat.exists_eq_add_of_le' hpos
  rw [crc8_succ _ _ _ hn, crc8Byte_zero_poly]

/-- Settles O20: two results of one flip differ by a power of `x` modulo the
divisor, and only the divisor `x^8` divides one. -/
theorem crc8SingleBitSensitivity : Obligations.Crc8SingleBitSensitivity := by
  refine ⟨fun poly => ⟨fun hpoly s n seed j i hn hj hi => crc8_flip_ne hpoly seed hn hj hi, ?_⟩,
    fun s n seed hpos hn => crc8_zero_poly s seed hpos hn⟩
  rintro hsens rfl
  refine hsens [0x00#8] 1 0x00#8 0 0 (by simp) (by simp) (by simp) ?_
  rw [crc8_zero_poly _ _ (by simp) (by simp), crc8_zero_poly _ _ (by simp) (by simp)]

/-! ### The running XOR, R83 -/

/-- What the XOR starts from comes out of it again. -/
theorem foldl_xor_xor (s : Frame) (b c : Byte) :
    s.foldl (· ^^^ ·) (b ^^^ c) = s.foldl (· ^^^ ·) b ^^^ c := by
  induction s generalizing b with
  | nil => rfl
  | cons d s ih =>
    rw [List.foldl_cons, List.foldl_cons, ← ih]
    congr 1
    ac_rfl

theorem xor8_length (s : Frame) (seed : Byte) :
    xor8 s s.length seed = s.foldl (· ^^^ ·) seed := by rw [xor8, List.take_length]

/-- Changing a byte by `c` changes the XOR by `c`. -/
theorem foldl_xor_modify (s : Frame) {j : Nat} (hj : j < s.length) (c seed : Byte) :
    (s.modify j fun b => b ^^^ c).foldl (· ^^^ ·) seed = s.foldl (· ^^^ ·) seed ^^^ c := by
  induction s generalizing j seed with
  | nil => cases hj
  | cons b s ih =>
    cases j with
    | zero =>
      rw [List.modify_zero_cons, List.foldl_cons, List.foldl_cons, ← BitVec.xor_assoc,
        foldl_xor_xor]
    | succ j => exact ih (Nat.lt_of_succ_lt_succ hj) _

/-- Settles O21: XOR is associative and commutative, and a flip in one byte flips the result. -/
theorem xor8OrderAndSensitivity : Obligations.Xor8OrderAndSensitivity := by
  intro s t seed _
  refine ⟨fun hperm => ?_, fun j i hj hi heq => ?_⟩
  · rw [xor8_length, xor8_length]
    exact hperm.foldl_eq' (fun x _ y _ z => by ac_rfl) seed
  · rw [xor8_length, xor8, List.take_of_length_le (by simp), foldl_xor_modify s hj] at heq
    have hzero : 0x01#8 <<< i = 0x00#8 := by simpa using heq
    interval_cases i <;> simp at hzero

end Sys2Proof.Machine

/-! ## The requests that perform no exchange (`40_checksum.md`, `41_frame_geometry.md`,
`45_configuration.md`)

The next state of each, and the proofs of O22, O24 to O26, O28 to O31, O54 and O55. -/

namespace Sys2Proof.Machine

open Sys2Proof.Claims

/-! ### CRC8 and XOR8 -/

/-- Settles O22: this is `exec_crc8_of_idle`. -/
theorem crc8RequestCompletes : Obligations.Crc8RequestCompletes :=
  fun _ _ _ hidle hlen => exec_crc8_of_idle hidle hlen

/-- The running XOR of a sequence is its seed with every byte added, R76. -/
theorem xor8_eq_foldr (s : Frame) (seed : Byte) :
    xor8 s s.length seed = seed ^^^ s.foldr (· ^^^ ·) 0x00#8 := by
  rw [xor8_length]
  induction s generalizing seed with
  | nil => simp
  | cons b s ih => rw [List.foldl_cons, List.foldr_cons, ih, BitVec.xor_assoc]

/-- Settles O24: the response of XOR8 with data its byte count can say. -/
theorem xor8RequestCompletes : Obligations.Xor8RequestCompletes := by
  intro s seed data hidle hlen
  rw [← xor8_eq_foldr]
  simp only [exec, execXor8, serve_idle hidle, if_neg (Nat.not_lt.2 hlen), accept_respond]
  rfl

/-- Settles O25: the length test of each request, decided for overlong data. -/
theorem overlongDataIsIllegal : Obligations.OverlongDataIsIllegal := by
  refine fun s seed data hidle => ⟨fun hlong => ?_, fun hlong => ?_⟩
  · simp only [exec, execXor8, serve_idle hidle, if_pos hlong, refuse_eq, accept_respond]
    rfl
  · simp only [exec, execCrc8, serve_idle hidle, if_pos hlong, refuse_eq, accept_respond]
    rfl

/-! ### The configuration requests -/

/-- CFG_WRITE accepted in IDLE writes `CFG` and `UNITS` and responds with success. -/
theorem exec_cfgWrite_responded {s : State} {c : Cfg} (hidle : s.seq = .idle) :
    exec (.cfgWrite c) s = .next ((s.setCfg c).responded [] statusOk none []) := by
  rw [exec_cfgWrite_of_idle hidle, respond_eq_responded_nil]
  rfl

/-- Settles O26: the response of `exec_cfgWrite_responded`, with the width of `UNITS`. -/
theorem cfgWriteCompletes : Obligations.CfgWriteCompletes :=
  fun _ c hidle => ⟨convUnits c, convUnits_toNat c, exec_cfgWrite_responded hidle⟩

theorem exec_cfgRead_of_idle {s : State} (hidle : s.seq = .idle) :
    exec .cfgRead s = .next (s.responded [] statusOk (some (cfgByte s.cfg)) []) := by
  simp only [exec, execCfgRead, serve_idle hidle, accept_respond]

theorem exec_geomRead_of_idle {s : State} (hidle : s.seq = .idle) :
    exec .geomRead s =
      .next (s.responded [] statusOk
        (some (geomByte (regLen s.cfg) (convBytes s.cfg) s.units)) []) := by
  simp only [exec, execGeomRead, serve_idle hidle, accept_units, accept_respond]

/-- Settles O28: the configuration byte of each of the twelve configurations is the sum given. -/
theorem cfgReadCompletes : Obligations.CfgReadCompletes := by
  intro s hidle
  have hbyte (c : Cfg) : cfgByte c = BitVec.ofNat 8 ((if c.sb = true then 8 else 0) +
      (if c.sw = .w24 then 4 else 0) +
      (if c.cm = .xor then 1 else if c.cm = .crc8 then 2 else 0)) := by
    obtain ⟨cm, sw, sb⟩ := c
    cases cm <;> cases sw <;> cases sb <;> rfl
  rw [exec_cfgRead_of_idle hidle, hbyte]
  rfl

/-- The geometry byte by the numbers of its fields, R67. -/
theorem geomByte_eq (c : Cfg) (units : BitVec 2) :
    geomByte (regLen c) (convBytes c) units =
      BitVec.ofNat 8 (regLength c * 32 + convLength c * 4 + units.toNat) := by
  revert units
  obtain ⟨cm, sw, sb⟩ := c
  cases cm <;> cases sw <;> cases sb <;> decide

/-- Settles O29: the geometry byte is the sum given. -/
theorem geomReadCompletes : Obligations.GeomReadCompletes := by
  intro s hidle
  rw [exec_geomRead_of_idle hidle, geomByte_eq]
  rfl

/-- Settles O30: the two requests read the `CFG` and the `UNITS` just written. -/
theorem cfgWriteThenReadBack : Obligations.CfgWriteThenReadBack := by
  intro s c hidle
  have hgeom : geomByte (regLen c) (convBytes c) (convUnits c) = BitVec.ofNat 8
      (regLength c * 32 + convLength c * 4 + (convLength c + 1) / 2) := by
    rw [geomByte_eq, convUnits_toNat]
  refine ⟨_, _, _, exec_cfgWrite_responded hidle, exec_cfgRead_of_idle rfl,
    exec_geomRead_of_idle rfl, cfgOfByte_cfgByte c, rfl, rfl, hgeom, ?_⟩
  rintro rfl
  exact hgeom

/-- Settles O31: the calculator is run on each row. -/
theorem geometryTable : Obligations.GeometryTable := by
  unfold Obligations.GeometryTable
  decide

/-! ### Frames -/

/-- Settles O54: of the cases of `exec` only a response without an exchange applies in IDLE. -/
theorem readOnlyRequestsFrame : Obligations.ReadOnlyRequestsFrame := by
  intro s t i hlatched hi hexec
  obtain ⟨-, rfl⟩ | ⟨-, ⟨p, hplan⟩, -⟩ | ⟨hidle, st, val, -, rfl⟩ | ⟨-, c, rfl, -⟩ :=
    exec_cases hexec
  · rfl
  · obtain ⟨x, d, rfl⟩ | ⟨x, d, rfl⟩ | rfl | rfl := hi <;> cases hplan
  · rw [responded_nil_of_idle hidle, ← hlatched hidle]
  · simp at hi

/-- Settles O55: in IDLE a response, after the write of `CFG` and `UNITS`. -/
theorem cfgWriteFrame : Obligations.CfgWriteFrame := by
  intro s t c hlatched hexec
  obtain ⟨-, rfl⟩ | ⟨-, ⟨p, hplan⟩, -⟩ | ⟨hidle, st, val, -, rfl⟩ | ⟨hidle, c, -, rfl⟩ :=
    exec_cases hexec
  · rfl
  · cases hplan
  · rw [responded_nil_of_idle hidle, ← hlatched hidle]
  · have hidle' : (s.setCfg c).seq = .idle := hidle
    rw [responded_nil_of_idle hidle', ← hlatched hidle]
    rfl

end Sys2Proof.Machine

/-! ## The requests that perform exchanges, when they end (`42_register_transactions.md` to
`44_conversion_read.md`, `60_exceptions.md`)

Masked and conversion reads, what an ended request does and does not depend on, and the proofs of
O33, O36, O39, O41 to O43, O45, O46, O50, O52, O53 and O56. -/

namespace Sys2Proof.Machine

open Sys2Proof.Claims

/-! ### Register reads -/

/-- A byte after the first is one of the tail. -/
theorem getD_succ_of_tail_eq {rx rx' : Frame} (h : rx.tail = rx'.tail) (i : Nat) (b : Byte) :
    rx.getD (i + 1) b = rx'.getD (i + 1) b := by
  simp only [List.getD_eq_getElem?_getD, ← List.getElem?_tail, h]

/-- Only the bytes after the first take part in the status of a register read, R97. -/
theorem readStatus_of_tail_eq {rx rx' : Frame} (h : rx.tail = rx'.tail) (poly : Byte)
    (cm : ChecksumMode) (a : Byte) : readStatus poly cm a rx = readStatus poly cm a rx' := by
  simp only [readStatus, getD_succ_of_tail_eq h]

/-- Settles O33: status and value read the tail of what was received. -/
theorem readRegIgnoresFirstByte : Obligations.ReadRegIgnoresFirstByte := by
  intro s tr a rx rx' hidle hans hans' htail
  refine ⟨_, _, readRegCompletes s a (some rx) hidle hans,
    readRegCompletes { s with transport := tr } a (some rx') hidle hans', ?_, ?_, rfl, ?_⟩
  · exact readStatus_of_tail_eq htail.symm ..
  · change rx'.getD 1 0x00#8 = rx.getD 1 0x00#8
    exact getD_succ_of_tail_eq htail.symm 0 _
  · change readStatus s.params.crc8Poly s.cfg.cm a rx = _
    exact readStatus_of_tail_eq (List.tail_cons (a := 0x00#8)).symm ..

/-! ### Masked access -/

/-- Settles O36: the exchange and check of READ_REG, with the value masked. -/
theorem readMaskedCompletes : Obligations.ReadMaskedCompletes := by
  intro s a m r hidle hans
  rw [← readFrame_eq_readTx] at hans ⊢
  cases r with
  | none => exact exec_of_one_exchange hidle rfl hans rfl
  | some rx =>
    refine exec_of_one_exchange hidle rfl hans ?_
    rw [← checkStatus_readCheckFails]
    rfl

/-- Settles O39: after a failed read the rule responds. -/
theorem writeMaskedStopsAfterFailedRead : Obligations.WriteMaskedStopsAfterFailedRead := by
  intro s a m v hidle hans
  rw [← readFrame_eq_readTx] at hans ⊢
  exact exec_of_one_exchange hidle rfl hans rfl

theorem merged_and_mask (old m v : Byte) : merged old m v &&& m = v &&& m := by
  refine BitVec.eq_of_getLsbD_eq fun i hi => ?_
  simp [merged, hi]
  cases m[i] <;> simp

/-- A merged value keeps the bits outside the mask when the field lies inside it. -/
theorem merged_and_not_mask {old m v : Byte} (h : v &&& ~~~m = 0x00#8) :
    merged old m v &&& ~~~m = old &&& ~~~m := by
  refine BitVec.eq_of_getLsbD_eq fun i hi => ?_
  have hbit : (v &&& ~~~m).getLsbD i = false := by simp [h]
  simp only [merged, BitVec.getLsbD_and, BitVec.getLsbD_or] at hbit ⊢
  revert hbit
  cases (~~~m).getLsbD i <;> simp_all

theorem readTx_length (c : Cfg) (a : Byte) : (readTx c.cm a).length = regLength c := by
  rw [← readFrame_eq_readTx, readFrame_length]

theorem writeTx_length (poly : Byte) (c : Cfg) (a v : Byte) :
    (writeTx poly c.cm a v).length = regLength c := by
  rw [← writeFrame_eq_writeTx, writeFrame_length]

/-- Settles O46: O37, then O36 and O32 on the state it leaves. -/
theorem maskedWriteRoundTrip : Obligations.MaskedWriteRoundTrip := by
  intro s a m v rx₁ rx₂ rx₃ hidle h₁ h₂ h₃
  have hwrite := writeMaskedCompletes s a m v rx₁ (some rx₂) hidle (by rwa [readTx_length])
    (by rwa [writeTx_length])
  have hsent (poly : Byte) (cm : ChecksumMode) (b : Byte) : (writeTx poly cm a b)[1]? = some b := by
    rw [← writeFrame_eq_writeTx, writeFrame_getElem?_one]
  refine ⟨_, _, _, hwrite, ?_, fun hback => ⟨readMaskedCompletes _ a m (some rx₃) rfl ?_, rfl, ?_,
    readRegCompletes _ a (some rx₃) rfl ?_, rfl, fun hinside => ?_⟩⟩
  · simp [hsent]
  · rwa [readTx_length]
  · change rx₃.getD 1 0x00#8 &&& m = v &&& m
    rw [hback, merged_and_mask]
  · rwa [readTx_length]
  · change rx₃.getD 1 0x00#8 &&& ~~~m = _
    rw [hback, merged_and_not_mask hinside]

/-! ### The conversion read -/

/-- In CRC8 mode the frame has at least four bytes, R120. -/
theorem three_lt_length_of_crc8 {s : State} {rx : Frame} (hcm : s.cfg.cm = .crc8)
    (hans : s.transport.answer (convLength s.cfg + 1) = .answered (some rx)) : 3 < rx.length := by
  have hlen := Transport.answer_length hans
  have hbytes : 3 ≤ convLength s.cfg := by
    simp only [convLength, hcm, reduceCtorEq, if_false]
    split <;> omega
  omega

/-- Settles O41: the verdict of the check, whose bytes exist. -/
theorem readConvCrc8Mode : Obligations.ReadConvCrc8Mode := by
  intro s rx hidle hcm hans
  have hlen := three_lt_length_of_crc8 hcm hans
  refine ⟨hlen, ?_⟩
  have hverdict : checkStatus (convCheckFails s.params.crc8Poly s.cfg.cm rx) =
      if crc8 s.params.crc8Poly rx 4 0x00#8 = rx[3] then 0b000#3 else 0b010#3 := by
    simp [hcm, convCheckFails, checkStatus, rxAt, hlen, statusOk, checksumErr]
  rw [exec_readConv_of_completed hidle hans, hverdict]

/-- Settles O42: after a failure the rule responds at once. -/
theorem readConvFailure : Obligations.ReadConvFailure := by
  intro s hidle hans
  rw [← convTx_length s.params, ← convFrame_eq_convTx] at hans
  rw [← convFrame_eq_convTx]
  exact exec_of_one_exchange hidle rfl hans rfl

theorem crc8_singleton (poly b seed : Byte) : crc8 poly [b] 1 seed = crc8Byte poly seed b := rfl

/-- Settles O43: the fourth byte is taken into the CRC of the first three, and a byte taken into
itself gives 0. -/
theorem readConvCheckAcceptsFixedPoints : Obligations.ReadConvCheckAcceptsFixedPoints := by
  intro s rx hidle hcm hans
  obtain ⟨hlen, hexec⟩ := readConvCrc8Mode s rx hidle hcm hans
  have hget : rx.getD 3 0x00#8 = rx[3] := by simp [hlen]
  have hfour : crc8 s.params.crc8Poly rx 4 0x00#8 =
      crc8 s.params.crc8Poly [rx[3]] 1 (crc8 s.params.crc8Poly rx 3 0x00#8) := by
    rw [crc8_succ _ _ _ hlen]
    rfl
  have hstatus (b c : Byte) : (if b = c then 0b000#3 else 0b010#3) = 0b000#3 ↔ b = c := by
    split <;> simp_all
  rw [hget]
  refine ⟨_, hexec, ?_, fun hcrc => ?_⟩
  · rw [← hfour]
    exact hstatus _ _
  · rw [← hcrc, crc8_singleton, crc8Byte_self] at hfour
    exact (hstatus _ _).trans (by rw [hfour, eq_comm])

/-! ### What an ended request does not depend on -/

/-- A plan that ends leaves the same state whatever was latched and whatever the response registers
held. -/
theorem advance_of_ends_alike {p : Plan} {s : State} (hbusy : s.seq = .busy)
    (hend : (advance p s).seq = .idle) (l : Option Latch) (r : Resp) :
    advance p { s with latched := l, resp := r } = advance p s := by
  induction p generalizing s l with
  | done => rfl
  | exchange tx rest ih =>
    cases hans : s.transport.answer tx.length with
    | waiting =>
      rw [advance_waiting hans, asked_seq, hbusy] at hend
      cases hend
    | answered a =>
      rw [advance_answered hans] at hend ⊢
      rw [advance_answered (s := { s with latched := l, resp := r }) hans]
      exact ih a (s := s.exchanged tx a) hbusy hend (l.map fun l => l.note a)

/-- Settles O53: a response overwrites what the registers held, and nothing reads them before. -/
theorem responsesAreNotSticky : Obligations.ResponsesAreNotSticky := by
  intro s t i r hidle hexec hend
  have hidle' : ({ s with resp := r } : State).seq = .idle := hidle
  cases hplan : requestPlan s.params s.cfg i with
  | some p =>
    rw [exec_plan hidle hplan, Host.Outcome.next.injEq] at hexec
    subst hexec
    rw [exec_plan hidle' hplan]
    exact congrArg _ (advance_of_ends_alike (accept_seq i s) hend _ r)
  | none =>
    obtain ⟨st, val, -, hall⟩ | ⟨c, -, hall⟩ := exec_of_no_plan hidle hplan
    · exact (hall r).trans ((hall s.resp).symm.trans hexec)
    · exact (hall r).trans ((hall s.resp).symm.trans hexec)

/-- Two requests with the same rule end alike. -/
theorem exec_of_same_plan {i j : Instr} {s t : State} {p : Plan} (hidle : s.seq = .idle)
    (hi : requestPlan s.params s.cfg i = some p) (hj : requestPlan s.params s.cfg j = some p)
    (hend : t.seq = .idle) (hexec : exec i s = .next t) : exec j s = .next t := by
  rw [exec_plan hidle hi, Host.Outcome.next.injEq] at hexec
  subst hexec
  rw [exec_plan hidle hj]
  exact congrArg _ (advance_of_ends_alike (accept_seq i s) hend (s.accept j).latched s.resp)

/-- The register address is the low six bits, R56. -/
theorem regAddr_eq_of_low_bits {a a' : Byte} (h : a &&& 0x3F#8 = a' &&& 0x3F#8) :
    regAddr a = regAddr a' := by
  have hlow (b : Byte) : regAddr (b &&& 0x3F#8) = regAddr b := by
    rw [regAddr, BitVec.extractLsb'_and]
    exact BitVec.and_allOnes
  rw [← hlow a, h, hlow]

/-- Settles O45: the rules of the two requests are the same. -/
theorem addressHighBitsIgnored : Obligations.AddressHighBitsIgnored := by
  intro s t a a' m v hidle hlow hend
  have haddr := regAddr_eq_of_low_bits hlow
  refine ⟨exec_of_same_plan hidle rfl ?_ hend, exec_of_same_plan hidle rfl ?_ hend,
    exec_of_same_plan hidle rfl ?_ hend, exec_of_same_plan hidle rfl ?_ hend⟩ <;>
    simp only [requestPlan, planReadReg, planWriteReg, planReadMasked, planWriteMasked, haddr]

/-! ### Requests end when every exchange answers -/

theorem advance_of_answers (p : Plan) {s : State} (h : s.transport.Answers) :
    (advance p s).seq = .idle ∧ (advance p s).latched = none ∧
      (advance p s).resp.written = true ∧ (advance p s).transport.Answers := by
  induction p generalizing s with
  | done => exact ⟨rfl, rfl, rfl, h⟩
  | exchange tx rest ih =>
    obtain ⟨a, hans⟩ := h.answered tx.length
    rw [advance_answered hans]
    exact ih a h.next

/-- Settles O50: a rule whose exchanges are all answered comes to its response. -/
theorem requestsCompleteWhenExchangesAnswer : Obligations.RequestsCompleteWhenExchangesAnswer := by
  intro s i hidle hans
  cases hplan : requestPlan s.params s.cfg i with
  | some p => exact ⟨_, exec_plan hidle hplan, advance_of_answers p hans⟩
  | none =>
    obtain ⟨st, val, -, hall⟩ | ⟨c, -, hall⟩ := exec_of_no_plan hidle hplan
    · exact ⟨_, hall s.resp, rfl, rfl, rfl, hans⟩
    · exact ⟨_, hall s.resp, rfl, rfl, rfl, hans⟩

/-! ### The frame of the requests with exchanges -/

theorem plan_of_exchanging {i : Instr} (h : Exchanging i) (p : Params) (c : Cfg) :
    ∃ plan, requestPlan p c i = some plan := by
  obtain ⟨a, rfl⟩ | ⟨a, v, rfl⟩ | ⟨a, m, rfl⟩ | ⟨a, m, v, rfl⟩ | rfl := h <;> exact ⟨_, rfl⟩

/-- Settles O56: a plan that runs adds its exchanges, and writes the response registers only at its
end. -/
theorem exchangingRequestsFrame : Obligations.ExchangingRequestsFrame := by
  intro s t i hi hexec
  cases hseq : s.seq with
  | busy =>
    rw [exec_busy i hseq, Host.Outcome.next.injEq] at hexec
    subst hexec
    exact ⟨rfl, ⟨[], List.append_nil _⟩, fun _ => rfl⟩
  | idle =>
    obtain ⟨plan, hplan⟩ := plan_of_exchanging hi s.params s.cfg
    rw [exec_plan hseq hplan, Host.Outcome.next.injEq] at hexec
    subst hexec
    obtain ⟨as, -, ⟨st, val, rx, -, -, hadv⟩ | ⟨tx, rest, -, hadv⟩⟩ :=
      advance_cases plan (s.accept i) <;> rw [hadv]
    · exact ⟨rfl, ⟨_, rfl⟩, fun hbusy => by cases hbusy⟩
    · exact ⟨rfl, ⟨_, rfl⟩, fun _ => rfl⟩

/-! ### CHECKSUM_ERR, R130 -/

theorem checkStatus_getLsbD_one (fails : Bool) : (checkStatus fails).getLsbD 1 = fails := by
  cases fails <;> rfl

theorem checkStatus_or_getLsbD_one (fails : Bool) {st : BitVec 3} (h : st.getLsbD 1 = false) :
    (checkStatus fails ||| st).getLsbD 1 = fails := by
  rw [BitVec.getLsbD_or, h, Bool.or_false, checkStatus_getLsbD_one]

theorem checked_of_readCheckFails {poly : Byte} {cm : ChecksumMode} {cmd : Byte} {rx : Frame}
    (h : readCheckFails poly cm cmd rx = true) : cm ≠ .none := by
  rintro rfl
  cases h

theorem crc8_of_convCheckFails {poly : Byte} {cm : ChecksumMode} {rx : Frame}
    (h : convCheckFails poly cm rx = true) : cm = .crc8 := by
  cases cm with
  | crc8 => rfl
  | none => cases h
  | xor => cases h

/-- The requests that report CHECKSUM_ERR, with whether they give a value, in the mode that checks
them. -/
def Checked (cm : ChecksumMode) (i : Instr) (val : Option Byte) : Prop :=
  ((∃ a, i = .readReg a) ∨ (∃ a m, i = .readMasked a m) ∨ ∃ a m v, i = .writeMasked a m v) ∧
      val.isSome = true ∨
    i = .readConv ∧ cm = .crc8 ∧ val.isSome = false

/-- A plan that ends with CHECKSUM_ERR is of a checked request, and reports what its first exchange
received. -/
theorem checked_of_plan {p : Params} {c : Cfg} {i : Instr} {plan : Plan}
    {as : List (Option Frame)} {st : BitVec 3} {val : Option Byte} {rx : Frame}
    (hplan : requestPlan p c i = some plan) (hdone : plan.after as = .done st val rx)
    (herr : st.getLsbD 1 = true) :
    c.cm ≠ .none ∧ Checked c.cm i val ∧ ∃ e es, plan.performed as = e :: es ∧ e.rx = some rx := by
  cases i <;> cases hplan
  case readReg a =>
    match as with
    | [] => cases hdone
    | none :: _ => cases hdone; cases herr
    | some got :: _ =>
      cases hdone
      rw [checkStatus_getLsbD_one] at herr
      exact ⟨checked_of_readCheckFails herr, .inl ⟨.inl ⟨_, rfl⟩, rfl⟩, _, _, rfl, rfl⟩
  case writeReg a v =>
    match as with
    | [] => cases hdone
    | none :: _ => cases hdone; cases herr
    | some got :: _ => cases hdone; cases herr
  case readMasked a m =>
    match as with
    | [] => cases hdone
    | none :: _ => cases hdone; cases herr
    | some got :: _ =>
      cases hdone
      rw [checkStatus_getLsbD_one] at herr
      exact ⟨checked_of_readCheckFails herr, .inl ⟨.inr (.inl ⟨_, _, rfl⟩), rfl⟩, _, _, rfl, rfl⟩
  case writeMasked a m v =>
    match as with
    | [] => cases hdone
    | none :: _ => cases hdone; cases herr
    | [some got] => cases hdone
    | some got :: b :: _ =>
      cases b <;> cases hdone <;> rw [checkStatus_or_getLsbD_one _ rfl] at herr <;>
        exact ⟨checked_of_readCheckFails herr, .inl ⟨.inr (.inr ⟨_, _, _, rfl⟩), rfl⟩,
          _, _, rfl, rfl⟩
  case readConv =>
    match as with
    | [] => cases hdone
    | none :: _ => cases hdone; cases herr
    | some got :: _ =>
      cases hdone
      rw [checkStatus_getLsbD_one] at herr
      have hcm := crc8_of_convCheckFails herr
      exact ⟨by simp [hcm], .inr ⟨rfl, hcm, rfl⟩, _, _, rfl, rfl⟩

/-- Settles O52: the bit comes from the check of a rule's first exchange. -/
theorem checksumErrorReporting : Obligations.ChecksumErrorReporting := by
  intro s t i hidle hexec hend herr
  cases hplan : requestPlan s.params s.cfg i with
  | some plan =>
    rw [exec_plan hidle hplan, Host.Outcome.next.injEq] at hexec
    subst hexec
    obtain ⟨as, st, val, rx, hdone, hadv⟩ := advance_of_end (accept_seq i s) hend
    rw [hadv] at herr ⊢
    obtain ⟨hcm, hchecked, e, es, hes, hrx⟩ := checked_of_plan hplan hdone herr
    exact ⟨hcm, hchecked, es, e, by rw [responded_bus, hes, accept_bus], hrx⟩
  | none =>
    obtain ⟨st, val, hst, hall⟩ | ⟨c, -, hall⟩ := exec_of_no_plan hidle hplan
    · obtain rfl := Host.Outcome.next.inj ((hall s.resp).symm.trans hexec)
      obtain rfl | ⟨rfl, -⟩ := hst <;> simp [statusOk, illegal] at herr
    · obtain rfl := Host.Outcome.next.inj ((hall s.resp).symm.trans hexec)
      simp [statusOk] at herr

end Sys2Proof.Machine

/-! ## Waiting for the transport (`10_state.md` R26, `60_exceptions.md` R139,
`70_reset_and_hazards.md` R156)

A request that has no answer, the step that goes on with it, and the proofs of O47 to O49. -/

namespace Sys2Proof.Machine

open Sys2Proof.Claims

/-! ### No answer -/

/-- Neither of the two replies without an answer completes an exchange (log 3). -/
theorem Transport.answer_of_unanswered {t : Transport} {r : Reply} (hr : r = .wait ∨ r = .never)
    (h : t.script.head? = some r) (n : Nat) : t.answer n = .waiting := by
  obtain rfl | rfl := hr
  · exact Transport.answer_wait h n
  · exact Transport.answer_never h n

theorem Transport.asked_of_unanswered {t : Transport} {r : Reply} (hr : r = .wait ∨ r = .never)
    (h : t.script.head? = some r) : t.asked = if r = .wait then t.skip 1 else t := by
  obtain rfl | rfl := hr
  · exact Transport.asked_wait h
  · exact Transport.asked_never h

/-- A request whose first exchange has no answer is accepted, and the transport was asked. -/
theorem exec_of_unanswered {i : Instr} {s : State} {r : Reply} (hr : r = .wait ∨ r = .never)
    (hidle : s.seq = .idle) (hi : Exchanging i) (h : s.transport.script.head? = some r) :
    exec i s = .next (s.accept i).asked := by
  obtain ⟨plan, hplan⟩ := plan_of_exchanging hi s.params s.cfg
  obtain ⟨tx, rest, rfl⟩ := requestPlan_exchange hplan
  have hwait : (s.accept i).transport.answer tx.length = .waiting :=
    Transport.answer_of_unanswered hr h _
  rw [exec_plan hidle hplan, advance_waiting hwait]

/-- A WRITE_MASKED whose read completed and whose write has no answer waits with the bytes read. -/
theorem exec_writeMasked_of_unanswered {s : State} {r : Reply} (hr : r = .wait ∨ r = .never)
    (hidle : s.seq = .idle) {a m v : Byte} {rx : Frame}
    (hread : s.transport.answer (readTx s.cfg.cm a).length = .answered (some rx))
    (h : (s.transport.skip 1).script.head? = some r) :
    exec (.writeMasked a m v) s =
      .next (((s.accept (.writeMasked a m v)).exchanged (readTx s.cfg.cm a) (some rx)).asked) := by
  rw [← readFrame_eq_readTx] at hread ⊢
  rw [Transport.skip_one] at h
  have hread' : (s.accept (.writeMasked a m v)).transport.answer
      (readFrame s.cfg.cm (regAddr a)).length = .answered (some rx) := hread
  have hwait (n : Nat) : ((s.accept (.writeMasked a m v)).exchanged
      (readFrame s.cfg.cm (regAddr a)) (some rx)).transport.answer n = .waiting :=
    Transport.answer_of_unanswered hr h n
  rw [exec_plan hidle rfl, planWriteMasked, regRead, advance_answered hread']
  exact congrArg _ (advance_waiting (hwait _))

theorem Plan.after_eq_exchange_of_waitsAfter {p : Plan} {as : List (Option Frame)}
    (h : p.waitsAfter as) : ∃ tx rest, p.after as = .exchange tx rest := by
  induction p generalizing as with
  | done => exact h.elim
  | exchange tx rest ih =>
    cases as with
    | nil => exact ⟨tx, rest, rfl⟩
    | cons a as => exact ih a h.2

/-- A block that waits at an exchange that never completes stays as it is. -/
theorem proceed_of_never {s : State} (hbusy : s.seq = .busy) (hlatch : s.LatchLegal)
    (h : s.transport.script.head? = some .never) : s.proceed = s := by
  obtain ⟨l, p, hl, -, hplan, hwaits⟩ := (latchLegal_busy_iff hbusy).1 hlatch
  obtain ⟨tx, rest, hafter⟩ := Plan.after_eq_exchange_of_waitsAfter hwaits
  simp only [State.proceed, State.resume, hbusy, hl, hplan]
  rw [hafter, advance_waiting (Transport.answer_never h _), State.asked, Transport.asked_never h]

/-- Settles O47: the request waits at the exchange that has no answer, and stays there for ever
where none ever comes. -/
theorem unansweredExchangeLeavesBusy : Obligations.UnansweredExchangeLeavesBusy := by
  refine fun s r hr => ⟨fun i hidle hi h => ?first, fun a m v rx hidle hread h => ?write,
    fun hnever hbusy hlatch h hmoves => ?forever⟩
  case first =>
    rw [exec_of_unanswered hr hidle hi h, ← Transport.asked_of_unanswered hr h]
    rfl
  case write =>
    have hasked := Transport.asked_of_unanswered hr h
    rw [Transport.skip_one, Transport.skip_succ, ← Transport.skip_one] at hasked
    rw [exec_writeMasked_of_unanswered hr hidle hread h, ← hasked, Transport.skip_one]
    rfl
  case forever =>
    subst hnever
    have hsame := proceed_of_never hbusy hlatch h
    obtain hnil | ⟨w, d, ms, hreq⟩ := hmoves
    · simp only [step, hnil, hsame]
    · simp only [step, hreq, hbusy, hsame]

/-! ### Going on after a wait -/

/-- Settles O48: the step goes on with the accepted request, on the transport after the wait. -/
theorem delayedRequestEndsAlike : Obligations.DelayedRequestEndsAlike := by
  intro s i hidle hi hmoves h
  have hasked := Transport.asked_wait h
  obtain ⟨plan, hplan⟩ := plan_of_exchanging hi s.params s.cfg
  refine ⟨_, (s.accept i).asked.proceed, exec_of_unanswered (.inl rfl) hidle hi h, ?_, ?_⟩
  · simp [step, hmoves]
  · have hidle' : ({ s with transport := s.transport.skip 1 } : State).seq = .idle := hidle
    rw [exec_eq_proceed hidle' hplan, ← hasked]
    rfl

/-- A request that waits for its last exchange responds as soon as that is answered. -/
theorem proceed_of_last_exchange {s : State} {l : Latch} {p : Plan} {tx : Frame}
    {rest : Option Frame → Plan} {a : Option Frame} {st : BitVec 3} {val : Option Byte} {rx : Frame}
    (hbusy : s.seq = .busy) (hl : s.latched = some l)
    (hplan : requestPlan s.params l.cfg l.request = some p)
    (hafter : p.after l.answers = .exchange tx rest)
    (hans : s.transport.answer tx.length = .answered a) (hrest : rest a = .done st val rx) :
    s.proceed = s.responded [⟨tx, a⟩] st val rx := by
  simp only [State.proceed, State.resume, hbusy, hl, hplan]
  rw [hafter, advance_answered hans, hrest, advance_done, respond_eq_responded_nil,
    exchanged_responded]

/-- Settles O49: the plan of the latched request and snapshot, after the byte read, has the write as
its last exchange. -/
theorem waitingWriteUsesSnapshot : Obligations.WaitingWriteUsesSnapshot := by
  intro s c a m v rx r hbusy hmoves hl hans
  rw [← writeFrame_eq_writeTx] at hans ⊢
  rw [← checkStatus_readCheckFails]
  have hstep : step s = .next s.proceed := by simp only [step, hmoves]
  rw [hstep]
  cases r <;> exact congrArg _ (proceed_of_last_exchange hbusy hl rfl rfl hans rfl)

end Sys2Proof.Machine
